-- ==== Sys2Proof/Word.lean ====
section
/-! DEFINITION. The words the link and the audio port carry, and the four-fold record of the voices. -/

namespace Sys2Proof

/-- One byte of the control link (R165). -/
abbrev Byte := BitVec 8

/-- One audio sample: 24-bit two's complement (R75, 5.1). -/
abbrev Sample := BitVec 24

/-- A pitch-class set: bit `c` stands for class `c`, 0..11 (2.2, R166). -/
abbrev PitchSet := BitVec 12

/-- A notice set: bit `i` stands for the group's source `i` in the order of 10.1 (R175). -/
abbrev NoticeSet := BitVec 3

/-- One value for each of the four voices, numbered 0 to 3 (0.5, R77, R116). -/
structure Four (α : Type) where
  v0 : α
  v1 : α
  v2 : α
  v3 : α
  deriving DecidableEq, Repr

/-- The value of voice `i`; every number above 2 names voice 3 (callers stay within 0..3). -/
def Four.get {α : Type} (f : Four α) : Nat → α
  | 0 => f.v0
  | 1 => f.v1
  | 2 => f.v2
  | _ => f.v3

/-- Replace the value of voice `i`. -/
def Four.set {α : Type} (f : Four α) (i : Nat) (x : α) : Four α :=
  match i with
  | 0 => { f with v0 := x }
  | 1 => { f with v1 := x }
  | 2 => { f with v2 := x }
  | _ => { f with v3 := x }

/-- The same value for all four voices. -/
def Four.all {α : Type} (x : α) : Four α := ⟨x, x, x, x⟩

/-- Apply one function to each voice. -/
def Four.map {α β : Type} (g : α → β) (f : Four α) : Four β := ⟨g f.v0, g f.v1, g f.v2, g f.v3⟩

/-- Combine two four-fold records voice by voice. -/
def Four.map2 {α β γ : Type} (g : α → β → γ) (f : Four α) (h : Four β) : Four γ :=
  ⟨g f.v0 h.v0, g f.v1 h.v1, g f.v2 h.v2, g f.v3 h.v3⟩

/-- The four values in voice order. -/
def Four.toList {α : Type} (f : Four α) : List α := [f.v0, f.v1, f.v2, f.v3]

end Sys2Proof
end

