-- ==== Sys2Proof/Syntax.lean ====
section
/-! DEFINITION. The commands: one constructor for each row of spec/opcode_table.json, with what the row's event or request
carries. -/

namespace Sys2Proof

/-- The cause of a receive fault (R168), in the order of 9.7. -/
inductive ReceiveFault where
  | length
  | stop
  | gap
  deriving DecidableEq, Repr

/-- A request's payload bytes, and how many microseconds after the last command that counted the store operation's time the
request is taken (R155, log 7). -/
structure TimedPayload where
  bytes : List Byte
  sinceMicros : Nat
  deriving DecidableEq, Repr

/-- The commands of the block. An event row carries what the event brings from outside (a sample, a byte, a verify's result,
a strap level, a stretch of time); a request row carries the sequence byte and the payload bytes of the frame that the
dispatch stage takes (9.2). Which event or entry a command stands for, and what it does where the state does not allow it,
is log 1. -/
inductive Instr where
  /-- Power is applied; the LINKSPD strap reads high or low (R180, R165). -/
  | powerOnReset (linkspdHigh : Bool)
  /-- RESETn goes low; the LINKSPD strap reads high or low (R180, R165). -/
  | pinReset (linkspdHigh : Bool)
  /-- RESETn goes high (R180, R106). -/
  | resetnRelease
  /-- The soft reset that follows the OK of a RESET request (R172). -/
  | softReset (linkspdHigh : Bool)
  /-- The start-up self-check ends: whether a capture RAM location read back wrong, and whether the store was
  unreadable (R181, R164). -/
  | selfCheckEnd (ramFault storeUnreadable : Bool)
  /-- A sample event with its lead sample (R102). -/
  | sampleEvent (x : Sample)
  /-- The sample event that wraps the frame position, with its lead sample (R1). -/
  | frameCompletion (x : Sample)
  /-- The Cue Queue takes the PHRASE START the tracker has raised (R144). -/
  | phraseStart
  /-- 1 ms has passed after a rising edge of the frame clock without a further one (R104, R105). -/
  | clockGapTimeout
  /-- A 10 ms measurement window ends (R104, R105). -/
  | measurementWindowEnd
  /-- The byte that completes a link frame (R167). -/
  | frameReceived (b : Byte)
  /-- A byte that faults inside a frame: a bad length byte, or a stop-bit error (R168). -/
  | receiveFault (b : Byte) (stopError : Bool)
  /-- More than 4 ms without a byte inside a frame (R168). -/
  | receiveGapTimeout
  /-- Dispatch of a fault entry (R170 step 1). -/
  | badFrame (cause : ReceiveFault)
  /-- Dispatch of a frame whose kind names no request (R170 step 2). -/
  | unknownKind (kind seq : Byte) (payload : List Byte)
  /-- The last byte of the front reply frame has been sent (R171). -/
  | transmitComplete
  /-- 01h (R106). -/
  | getStatus (seq : Byte) (payload : List Byte)
  /-- 02h (R72). -/
  | monitor (seq : Byte) (payload : List Byte)
  /-- 03h (R172). -/
  | reset (seq : Byte) (payload : List Byte)
  /-- 04h (R112). -/
  | setEngineMode (seq : Byte) (payload : List Byte)
  /-- 10h (R8). -/
  | setTuning (seq : Byte) (payload : List Byte)
  /-- 11h (R6). -/
  | setTracker (seq : Byte) (payload : List Byte)
  /-- 12h (R43). -/
  | readSetup (seq : Byte) (payload : List Byte)
  /-- 20h (R24). -/
  | note (seq : Byte) (payload : List Byte)
  /-- 21h (R28). -/
  | notesClear (seq : Byte) (payload : List Byte)
  /-- 22h (R30). -/
  | setScale (seq : Byte) (payload : List Byte)
  /-- 23h (R32). -/
  | setTemplate (seq : Byte) (payload : List Byte)
  /-- 24h (R38). -/
  | setChordPolicy (seq : Byte) (payload : List Byte)
  /-- 25h (R42). -/
  | readContext (seq : Byte) (payload : List Byte)
  /-- 30h (R121). -/
  | loadScene (seq : Byte) (payload : List Byte)
  /-- 31h (R122). -/
  | loadInlineScene (seq : Byte) (payload : List Byte)
  /-- 32h (R124). -/
  | editWorkingScene (seq : Byte) (payload : List Byte)
  /-- 33h (R126). -/
  | readWorkingScene (seq : Byte) (payload : List Byte)
  /-- 40h (R140). -/
  | enqueueCue (seq : Byte) (payload : List Byte)
  /-- 41h (R143). -/
  | fire (seq : Byte) (payload : List Byte)
  /-- 42h (R145). -/
  | cancelCue (seq : Byte) (payload : List Byte)
  /-- 43h (R146). -/
  | clearCues (seq : Byte) (payload : List Byte)
  /-- 44h (R152). -/
  | listCues (seq : Byte) (payload : List Byte)
  /-- 45h (R150). -/
  | readCueResults (seq : Byte) (payload : List Byte)
  /-- 46h (R142). -/
  | beat (seq : Byte) (payload : List Byte)
  /-- 50h (R156). -/
  | readSlot (seq : Byte) (payload : List Byte)
  /-- 51h (R157). -/
  | programSlot (seq : Byte) (payload : List Byte)
  /-- 52h (R157). -/
  | eraseBank (seq : Byte) (payload : List Byte)
  /-- 53h (R163), with the time at which it is taken. -/
  | storeStatus (seq : Byte) (payload : TimedPayload)
  /-- 54h (R162). -/
  | freezeStore (seq : Byte) (payload : List Byte)
  /-- The programming voltage becomes ready, so many microseconds after the last command that counted the operation's time
  (R158, log 7). -/
  | programmingVoltageReady (waitMicros : Nat)
  /-- A 120 µs pulse and its verify end; whether the write verified (R158). -/
  | storePulseVerify (verified : Bool)
  /-- A 10 ms erase pulse and its 0.5 ms bank verify end; whether every cell reads erased (R159). -/
  | erasePulseVerify (erased : Bool)
  /-- The operation's elapsed time reaches 1,500 ms (R160). -/
  | timerExpiry
  /-- The store supply sense goes low, so many microseconds after the last command that counted the operation's
  time (R160, log 7). -/
  | supplyLoss (sinceMicros : Nat)
  /-- The store supply sense goes high (R163). -/
  | storeSupplyRestored
  /-- 58h (R128). -/
  | overlayOn (seq : Byte) (payload : List Byte)
  /-- 59h (R133). -/
  | overlayOff (seq : Byte) (payload : List Byte)
  /-- 5Ah (R130). -/
  | overlayWrite (seq : Byte) (payload : List Byte)
  /-- 5Bh (R134). -/
  | overlayRead (seq : Byte) (payload : List Byte)
  /-- 60h (R177). -/
  | readNotices (seq : Byte) (payload : List Byte)
  /-- 61h (R178). -/
  | clearNotices (seq : Byte) (payload : List Byte)
  /-- 62h (R179). -/
  | configureNotices (seq : Byte) (payload : List Byte)
  /-- A byte received on the link (R167). -/
  | receivedByte (b : Byte) (stopError : Bool)
  /-- A rising edge of the audio frame clock (R105). -/
  | frameClockEdge
  deriving DecidableEq, Repr

end Sys2Proof
end

