-- ==== Sys2Proof/Decode.lean ====
section
/-! DEFINITION. Words that spell a command: no row of spec/opcode_table.json has bits, so no word spells one. A request's kind
and payload bytes are read where the dispatch stage takes its frame (Machine/Ops.lean, Machine/Operands.lean). -/

namespace Sys2Proof

/-- The command a word of so many bits spells: none, since the table gives no row any bits (log 2). -/
def decodeTableWord (_nbits _w : Nat) : Option Instr := none

end Sys2Proof
end

