-- ==== Sys2Proof/Machine/Arith.lean ====
section
/-! DEFINITION. The manual's arithmetic: rounding, clamping, byte order, and the exact integer forms of its roots, powers,
logarithms and cosines. -/

namespace Sys2Proof.Machine

/-! ### Clamping and rounding (0.5) -/

/-- Clamped: the value brought to the nearest end of its range (0.5). -/
def clampInt (lo hi x : Int) : Int := if x < lo then lo else if hi < x then hi else x

/-- Clamped, for a quantity that is never negative. -/
def clampNat (lo hi x : Nat) : Nat := if x < lo then lo else if hi < x then hi else x

/-- `n / d` rounded to the nearest whole number, halves away from zero (0.5). -/
def roundDiv (n : Int) (d : Nat) : Int :=
  if 0 ≤ n then (2 * n + d) / (2 * d) else -((2 * -n + d) / (2 * d))

/-- A fraction rounded to the nearest whole number, halves away from zero (0.5). -/
def roundRat (x : Rat) : Int := roundDiv x.num x.den

/-! ### Bytes (R166) -/

/-- A signed value as one two's-complement byte. -/
def byteOfInt (x : Int) : Byte := BitVec.ofInt 8 x

/-- A whole number as one byte. -/
def byteOfNat (n : Nat) : Byte := BitVec.ofNat 8 n

/-- Two bytes, most significant first. -/
def twoBytes (v : BitVec 16) : List Byte := [v.extractLsb' 8 8, v.extractLsb' 0 8]

def twoBytesNat (n : Nat) : List Byte := twoBytes (BitVec.ofNat 16 n)

def twoBytesInt (x : Int) : List Byte := twoBytes (BitVec.ofInt 16 x)

/-- An absent one-byte value (R166). -/
def absentByte : Byte := 0xFF

/-- An absent two-byte value (R166). -/
def absentTwo : List Byte := [0xFF, 0xFF]

/-- A mark: 00h clear, 01h set (R166). -/
def markByte (b : Bool) : Byte := if b then 1 else 0

/-- The 16-bit value of two bytes, most significant first. -/
def word16 (hi lo : Byte) : BitVec 16 := hi ++ lo

/-- A pitch-class set as its two bytes, bits 12 to 15 sent as 0 (R166). -/
def pitchSetBytes (s : PitchSet) : List Byte := twoBytes (s.zeroExtend 16)

/-- The pitch-class set two bytes carry, bits 12 to 15 disregarded (R166). -/
def pitchSetOf (hi lo : Byte) : PitchSet := (word16 hi lo).extractLsb' 0 12

/-! ### Roots, logarithms, cosines -/

/-- Add to `acc` each power of two below `2 ^ bits`, the greatest first, while the `k`-th power stays at or below `n`. -/
def rootFrom (k n : Nat) : Nat → Nat → Nat
  | 0, acc => acc
  | bits + 1, acc => rootFrom k n bits (if (acc + 2 ^ bits) ^ k ≤ n then acc + 2 ^ bits else acc)

/-- The greatest whole number below `2 ^ bits` whose `k`-th power is at most `n`: the whole part of the `k`-th root of `n`. -/
def floorRoot (k n bits : Nat) : Nat := rootFrom k n bits 0

/-- Add to `acc` each power of two below `2 ^ bits`, the greatest first, while `b * 2 ^ acc` stays at or below `n`. -/
def shiftFrom (b n : Nat) : Nat → Nat → Nat
  | 0, acc => acc
  | bits + 1, acc => shiftFrom b n bits (if b * 2 ^ (acc + 2 ^ bits) ≤ n then acc + 2 ^ bits else acc)

/-- The whole part of `log2 (a / b)`, for a quotient from `2 ^ -16384` up to `2 ^ 16384`. -/
def floorLog2Ratio (a b : Nat) : Int := (shiftFrom b (a * 2 ^ 16384) 15 0 : Int) - 16384

/-- The scale of the cosine series. -/
def seriesScale : Nat := 2 ^ 120

/-- `pi`, in units of `1 / seriesScale`: the integer part of `pi * 2 ^ 120`. -/
def scaledPi : Nat := 4175892906503776358826876457663557747

/-- The terms `x ^ (2 j) / (2 j)!` of the cosine series from the `j`-th on, alternating in sign, for `x2 = x ^ 2`; all in
units of `1 / seriesScale`. -/
def cosSeries (x2 : Nat) : Nat → Nat → Int → Int
  | 0, _, _ => 0
  | n + 1, j, term =>
    term + cosSeries x2 n (j + 1) (-(term * x2 / seriesScale) / ((2 * j + 1) * (2 * j + 2)))

/-- `16384 * cos (k / 100 * 90°)` rounded to the nearest whole number, for `k` in 0..100, from 24 terms of the series: the
error is far below the distance of any of the 101 values from a half (log 12). -/
def cosCoeff (k : Nat) : Nat :=
  let x := scaledPi * k / 200
  (roundDiv (16384 * cosSeries (x * x / seriesScale) 24 0 seriesScale) seriesScale).toNat

end Sys2Proof.Machine
end

