-- ==== Sys2Proof/Machine/Blocks.lean ====
section
/-! DEFINITION. The state of each block of the part, as plain data: one structure a block, with the manual's names. -/

namespace Sys2Proof.Machine

/-! ### Lead Pitch Tracking (chapter 1) -/

/-- The five voicing states (1.5), in the order of 9.7. -/
inductive Voicing where
  | silent
  | unvoiced
  | onset
  | voiced
  | release
  deriving DecidableEq, Repr

/-- The phrase event of a frame record (R20). -/
inductive PhraseEvent where
  | none
  | phraseStart
  | phraseEnd
  deriving DecidableEq, Repr

/-- The seven tracker settings as stored (R6). -/
structure TrackerSettings where
  lowHz : Nat
  highHz : Nat
  gate : Int
  qOn : Nat
  qOff : Nat
  hold : Nat
  phraseGap : Nat
  deriving DecidableEq, Repr

/-- The published frame record (R20). -/
structure FrameRecord where
  state : Voicing
  level : Int
  q : Nat
  t16 : Nat
  held : Option Int
  lastAccepted : Option Nat
  event : PhraseEvent
  deriving DecidableEq, Repr

/-- The Pitch Tracker (R1 to R22). `window` is the analysis window, newest sample first. `phraseStartsAwaiting` is
the model's own field: how many PHRASE STARTs have been raised that the Cue Queue has not yet taken (R144, log 8). -/
structure Tracker where
  settings : TrackerSettings
  fRef : Nat
  window : List Sample
  framePos : Nat
  state : Voicing
  onsetCount : Nat
  holdCount : Nat
  silenceCount : Nat
  betweenPhrases : Bool
  held : Option Int
  jumpPending : Option Int
  lastAccepted : Option Nat
  record : FrameRecord
  phraseStartsAwaiting : Nat
  deriving DecidableEq, Repr

/-! ### Key, Scale and Chord Context (chapter 2) -/

/-- The chord context (R37): a root class and a template entry number, except in NONE. -/
inductive ChordContext where
  | none
  | active (root entry : Nat)
  | latched (root entry : Nat)
  deriving DecidableEq, Repr

/-- The chord release policy (R38). -/
inductive ReleasePolicy where
  | latch
  | clear
  deriving DecidableEq, Repr

/-- One entry of the chord template table (R31). -/
structure Template where
  intervals : PitchSet
  scaleIndex : Nat
  deriving DecidableEq, Repr

/-- The Key Context Unit (chapter 2). `notes` is the chord note set in order of arrival, earliest first (R23). -/
structure KeyContext where
  notes : List Nat
  context : ChordContext
  scales : Vector PitchSet 16
  templates : Vector Template 12
  policy : ReleasePolicy
  deriving DecidableEq, Repr

/-! ### The scene record (6.1) -/

inductive KeySource where
  | scene
  | chord
  deriving DecidableEq, Repr

inductive VoiceMode where
  | off
  | scale
  | chord
  | semitone
  | drone
  deriving DecidableEq, Repr

inductive UnvoicedPolicy where
  | mute
  | hold
  deriving DecidableEq, Repr

inductive OnsetMode where
  | atVoiced
  | atOnset
  deriving DecidableEq, Repr

/-- A voice block of a scene record (R116). The gain is a count of half-decibel steps (R115). -/
structure VoiceRule where
  mode : VoiceMode
  amount : Int
  low : Nat
  high : Nat
  detune : Int
  gain : Int
  pan : Int
  policy : UnvoicedPolicy
  deriving DecidableEq, Repr

/-- A scene record (R115, R116). The dry gain is a count of half-decibel steps. -/
structure Scene where
  name : List Byte
  tonic : Nat
  scaleIndex : Nat
  keySource : KeySource
  correction : Nat
  hysteresis : Nat
  glide : Nat
  crossfade : Nat
  collisionAvoid : Bool
  onsetMode : OnsetMode
  dryGain : Int
  dryPan : Int
  attack : Nat
  release : Nat
  voices : Four VoiceRule
  deriving DecidableEq, Repr

/-! ### Harmony Voice Planning (chapter 3) -/

/-- An envelope command (R69). -/
inductive EnvCommand where
  | open
  | keep
  | close
  deriving DecidableEq, Repr

/-- What the Voice Planner holds for one voice (chapter 3). -/
structure PlanVoice where
  planned : Option Int
  notePart : Int
  shift : Int
  ratio : Nat
  outOfReach : Bool
  doubledOut : Bool
  command : EnvCommand
  deriving DecidableEq, Repr

/-- The Voice Planner: the previous lead note, and the four voices. -/
structure Planner where
  prevLead : Option Int
  voices : Four PlanVoice
  deriving DecidableEq, Repr

/-! ### Capture Ring and Voice Read Heads (chapter 4) -/

/-- The envelope states (R77), in the order of 9.7. -/
inductive EnvState where
  | closed
  | opening
  | open
  | closing
  deriving DecidableEq, Repr

/-- A read head: its position (whole part 0..4095 and fraction in units of 1/8192, R80) and the lag carried with it (R81). -/
structure Head where
  whole : Nat
  frac : Nat
  lag : Int
  deriving DecidableEq, Repr

/-- A crossfade in progress: the fading head, the progress, and the length taken at the splice (R86, R87). The fading head
and the progress are present together (R77), so they stand in one record. -/
structure Crossfade where
  fading : Head
  progress : Nat
  length : Nat
  deriving DecidableEq, Repr

/-- A voice channel (R77). -/
structure Channel where
  env : EnvState
  level : Rat
  active : Option Head
  fade : Option Crossfade
  ratio : Nat
  command : EnvCommand
  deriving DecidableEq, Repr

inductive StallCause where
  | clock
  | ramFault
  deriving DecidableEq, Repr

/-- RUNNING, or STALLED with its cause (R76). -/
inductive EngineState where
  | running
  | stalled (cause : StallCause)
  deriving DecidableEq, Repr

/-- The Shift Engine (chapter 4). `ring` lists the capture ring's non-zero samples by index, indices rising (log 9). -/
structure Engine where
  state : EngineState
  ring : List (Nat × Sample)
  w : Nat
  channels : Four Channel
  crossfade : Nat
  attack : Nat
  release : Nat
  deriving DecidableEq, Repr

/-! ### Output Mixing and the Audio Port (chapter 5) -/

inductive ClockState where
  | absent
  | present
  deriving DecidableEq, Repr

inductive EngineMode where
  | run
  | bypass
  deriving DecidableEq, Repr

/-- The four output samples of a port frame (5.1, R110). -/
structure OutFrame where
  mainLeft : Sample
  mainRight : Sample
  harmLeft : Sample
  harmRight : Sample
  deriving DecidableEq, Repr

/-- The Audio Port (R102 to R106). `lastWindowCount` times 100 is the last measured rate; `windowCount` and `windowGap` belong
to the window in progress; `gapOpen` says that 1 ms has passed without an edge and none has come since. `formed` are the
output samples waiting for the next port frame, and `sending` those of the port frame in progress. -/
structure Port where
  clock : ClockState
  qualifying : Nat
  lastWindowCount : Nat
  windowCount : Nat
  windowGap : Bool
  gapOpen : Bool
  formed : Option OutFrame
  sending : OutFrame
  deriving DecidableEq, Repr

/-- A coefficient set: gain and pans in units of 1/16384 (5.3). -/
structure Coeffs where
  gain : Nat
  panLeft : Nat
  panRight : Nat
  deriving DecidableEq, Repr

/-- The Output Mixer (chapter 5): engine mode, bypass ramp position, clip mark, coefficient sets. -/
structure Mixer where
  mode : EngineMode
  ramp : Nat
  clip : Bool
  dry : Coeffs
  voices : Four Coeffs
  deriving DecidableEq, Repr

/-! ### Working Scene and Rehearsal Overlay (chapter 6) -/

/-- The source kind of the origin record with the fields it is present for (R119). -/
inductive OriginSource where
  | default
  | slot (bank slot : Nat)
  | overlay (bank slot : Nat) (detached : Bool)
  | inline
  | cue (tag : Nat)
  deriving DecidableEq, Repr

/-- The origin record (R119). -/
structure Origin where
  source : OriginSource
  edited : Bool
  deriving DecidableEq, Repr

/-- The follow record (R131): an overlay slot and the checked record written to it. -/
structure Follow where
  slot : Nat
  scene : Scene
  deriving DecidableEq, Repr

/-- The Working Scene block (R119). -/
structure Working where
  scene : Scene
  origin : Origin
  follow : Option Follow
  deriving DecidableEq, Repr

/-- The Rehearsal Overlay (R127): the mapped bank when ACTIVE, and the eight RAM slots, EMPTY or VALID with a record. -/
structure Overlay where
  mapped : Option Nat
  ram : Vector (Option Scene) 8
  deriving DecidableEq, Repr

/-! ### Cue Queue (chapter 7) -/

inductive CueSource where
  | slot (bank slot : Nat)
  | inline
  deriving DecidableEq, Repr

inductive CueTrigger where
  | footswitch
  | beats (count : Nat)
  | phrase
  deriving DecidableEq, Repr

inductive CueLanding where
  | atTrigger
  | atPhrase
  deriving DecidableEq, Repr

inductive CueState where
  | queued
  | armed
  | landing
  deriving DecidableEq, Repr

/-- A cue record (R135); deadline 0 means none. -/
structure Cue where
  tag : Nat
  scene : Scene
  source : CueSource
  trigger : CueTrigger
  landing : CueLanding
  deadline : Nat
  state : CueState
  deriving DecidableEq, Repr

/-- How a cue landed (R138, R149). -/
inductive How where
  | trigger
  | phrase
  | deadline
  | forced
  deriving DecidableEq, Repr

/-- How a cue left the queue (R149). -/
inductive CueOutcome where
  | landed (how : How)
  | cancelled
  | cleared
  | preempted
  | queueAbort
  deriving DecidableEq, Repr

/-- An entry of the results list (R149). -/
structure CueResult where
  tag : Nat
  outcome : CueOutcome
  state : CueState
  counter : Nat
  overflow : Bool
  deriving DecidableEq, Repr

/-- The Cue Queue (chapter 7): the cues from the head back, the armed counter, the results list oldest first. -/
structure CueQueue where
  queue : List Cue
  counter : Nat
  results : List CueResult
  deriving DecidableEq, Repr

/-! ### Scene Store (chapter 8) -/

/-- A slot state as the table holds it (R154), in the order of 9.7. -/
inductive SlotState where
  | blank
  | valid
  | incomplete
  deriving DecidableEq, Repr

/-- What a slot of the nonvolatile array holds (8.1, R154). -/
inductive Slot where
  | blank
  | valid (record : Scene)
  | incomplete
  deriving DecidableEq, Repr

/-- The phases of a PROGRAM with their progress (R155, R158). -/
inductive ProgramStage where
  | mark
  | write (word : Nat)
  | commit
  deriving DecidableEq, Repr

/-- The phases of an ERASE with their progress (R155, R159). The prewrite counts the 30 words of a slot, header first. -/
inductive EraseStage where
  | mark (slot : Nat)
  | prewrite (slot word : Nat)
  | pulse (count : Nat)
  deriving DecidableEq, Repr

/-- The operation's kind, target and phase; a PROGRAM carries the checked record it writes (R155, R158). -/
inductive StoreWork where
  | program (bank slot : Nat) (record : Scene) (stage : ProgramStage)
  | erase (bank : Nat) (stage : EraseStage)
  deriving DecidableEq, Repr

inductive FailureCause where
  | verify
  | timer
  | supply
  deriving DecidableEq, Repr

inductive OpStatus where
  | inFlight
  | done
  | failed (cause : FailureCause)
  deriving DecidableEq, Repr

/-- The operation record (R155), with what carries it on: the microseconds counted since it was accepted, the pulses applied to
the write in progress, whether a pulse is being applied (otherwise the programming voltage is awaited), and the microseconds
counted of the pulse in progress (log 7). -/
structure StoreOp where
  work : StoreWork
  status : OpStatus
  elapsedMicros : Nat
  pulses : Nat
  pulsing : Bool
  pulseMicros : Nat
  deriving DecidableEq, Repr

/-- The Scene Store (chapter 8). Slot `i` of bank `b` stands at `8 * b + i`. `op` absent is kind NONE. -/
structure SceneStore where
  array : Vector Slot 64
  table : Vector SlotState 64
  op : Option StoreOp
  latch : Bool
  frozen : Bool
  supplyHigh : Bool
  deriving DecidableEq, Repr

/-! ### Control Link (chapter 9) -/

/-- The receive assembler (R167); `body` holds the expected length and the bytes stored. -/
inductive Assembler where
  | hunt
  | length
  | body (expected : Nat) (stored : List Byte)
  deriving DecidableEq, Repr

/-- An entry of the request FIFO (R169). -/
inductive FifoEntry where
  | frame (kind seq : Byte) (payload : List Byte)
  | fault (cause : ReceiveFault)
  deriving DecidableEq, Repr

/-- A frame of the reply queue (9.2); READY carries no reply code (R173). -/
structure ReplyFrame where
  kind : Byte
  seq : Byte
  code : Option Byte
  payload : List Byte
  deriving DecidableEq, Repr

/-- The Link Interface (chapter 9). `stopped` says that a RESET has been taken (R172). -/
structure Link where
  highRate : Bool
  assembler : Assembler
  fifo : List FifoEntry
  replies : List ReplyFrame
  stopped : Bool
  deriving DecidableEq, Repr

/-! ### Notices and start-up (chapter 10) -/

/-- The Notice Unit (R175): the pending sets of groups 0 to 5, the enabled sets and levels of groups 1 to 5 (group `g` at
index `g - 1`; group 0 has fixed ones), and the mask. Detected sets and ATTN follow from these (R175, R176). -/
structure Notices where
  pending : Vector NoticeSet 6
  enabled : Vector NoticeSet 5
  levels : Vector Nat 5
  mask : Nat
  deriving DecidableEq, Repr

inductive ResetKind where
  | powerOn
  | pin
  | soft
  deriving DecidableEq, Repr

/-- Where the part stands between a reset and READY (R180, R181). -/
inductive StartPhase where
  | pinHeld
  | selfCheck
  | up
  deriving DecidableEq, Repr

/-- The start-up: its phase, and the kind of the reset most recently taken (R180). -/
structure StartUp where
  phase : StartPhase
  kind : ResetKind
  deriving DecidableEq, Repr

end Sys2Proof.Machine
end

