-- ==== Sys2Proof/Machine/Codes.lean ====
section
/-! DEFINITION. The enumerations' bytes and the record layouts of the link (9.2, 9.6, 9.7). -/

namespace Sys2Proof.Machine

/-! ### Reply codes (9.6) -/

inductive ReplyCode where
  | ok
  | accepted
  | nothing
  | badFrame
  | unknownKind
  | badLength
  | badField
  | busy
  | frozen
  | storeFault
  | lowSupply
  | overlayActive
  | notBlank
  | notValid
  | queueFull
  | duplicateTag
  | notFound
  deriving DecidableEq, Repr

def ReplyCode.byte : ReplyCode → Byte
  | .ok => 0x00
  | .accepted => 0x01
  | .nothing => 0x02
  | .badFrame => 0x10
  | .unknownKind => 0x11
  | .badLength => 0x12
  | .badField => 0x13
  | .busy => 0x20
  | .frozen => 0x21
  | .storeFault => 0x22
  | .lowSupply => 0x23
  | .overlayActive => 0x24
  | .notBlank => 0x25
  | .notValid => 0x26
  | .queueFull => 0x30
  | .duplicateTag => 0x31
  | .notFound => 0x32

/-! ### Enumerations (9.7) -/

def KeySource.byte : KeySource → Byte
  | .scene => 0
  | .chord => 1

def VoiceMode.byte : VoiceMode → Byte
  | .off => 0
  | .scale => 1
  | .chord => 2
  | .semitone => 3
  | .drone => 4

def UnvoicedPolicy.byte : UnvoicedPolicy → Byte
  | .mute => 0
  | .hold => 1

def Voicing.byte : Voicing → Byte
  | .silent => 0
  | .unvoiced => 1
  | .onset => 2
  | .voiced => 3
  | .release => 4

def EnvState.byte : EnvState → Byte
  | .closed => 0
  | .opening => 1
  | .open => 2
  | .closing => 3

/-- The chord context as state, root and entry, the latter two absent for NONE (R24, R37). -/
def ChordContext.bytes : ChordContext → List Byte
  | .none => [0, absentByte, absentByte]
  | .active r t => [1, byteOfNat r, byteOfNat t]
  | .latched r t => [2, byteOfNat r, byteOfNat t]

def ReleasePolicy.byte : ReleasePolicy → Byte
  | .latch => 0
  | .clear => 1

def EngineMode.byte : EngineMode → Byte
  | .run => 0
  | .bypass => 1

/-- Engine state and stall cause, the cause FFh when RUNNING. -/
def EngineState.bytes : EngineState → List Byte
  | .running => [0, absentByte]
  | .stalled .clock => [1, 0]
  | .stalled .ramFault => [1, 1]

def ClockState.byte : ClockState → Byte
  | .absent => 0
  | .present => 1

/-- Cue source, bank and slot; FFh for the bank and slot of an INLINE cue (R152). -/
def CueSource.bytes : CueSource → List Byte
  | .slot b i => [0, byteOfNat b, byteOfNat i]
  | .inline => [1, absentByte, absentByte]

/-- Trigger and count; the count FFh when the trigger is not BEATS (R152). -/
def CueTrigger.bytes : CueTrigger → List Byte
  | .footswitch => [0, absentByte]
  | .beats n => [1, byteOfNat n]
  | .phrase => [2, absentByte]

def CueLanding.byte : CueLanding → Byte
  | .atTrigger => 0
  | .atPhrase => 1

def CueState.byte : CueState → Byte
  | .queued => 0
  | .armed => 1
  | .landing => 2

def How.byte : How → Byte
  | .trigger => 0
  | .phrase => 1
  | .deadline => 2
  | .forced => 3

/-- Outcome and how, the how absent unless LANDED (R149). -/
def CueOutcome.bytes : CueOutcome → List Byte
  | .landed h => [0, h.byte]
  | .cancelled => [1, absentByte]
  | .cleared => [2, absentByte]
  | .preempted => [3, absentByte]
  | .queueAbort => [4, absentByte]

def SlotState.byte : SlotState → Byte
  | .blank => 0
  | .valid => 1
  | .incomplete => 2

def FailureCause.byte : FailureCause → Byte
  | .verify => 0
  | .timer => 1
  | .supply => 2

/-- Status of the operation record. -/
def OpStatus.byte : OpStatus → Byte
  | .inFlight => 0
  | .done => 1
  | .failed _ => 2

/-- Failure cause, absent unless FAILED (R155). -/
def OpStatus.causeByte : OpStatus → Byte
  | .failed c => c.byte
  | _ => absentByte

def receiveFaultByte : ReceiveFault → Byte
  | .length => 0
  | .stop => 1
  | .gap => 2

def ResetKind.byte : ResetKind → Byte
  | .powerOn => 0
  | .pin => 1
  | .soft => 2

def KeySource.ofByte (b : Byte) : Option KeySource :=
  if b = 0 then some .scene else if b = 1 then some .chord else none

def VoiceMode.ofByte (b : Byte) : Option VoiceMode :=
  if b = 0 then some .off else if b = 1 then some .scale else if b = 2 then some .chord
  else if b = 3 then some .semitone else if b = 4 then some .drone else none

def UnvoicedPolicy.ofByte (b : Byte) : Option UnvoicedPolicy :=
  if b = 0 then some .mute else if b = 1 then some .hold else none

def ReleasePolicy.ofByte (b : Byte) : Option ReleasePolicy :=
  if b = 0 then some .latch else if b = 1 then some .clear else none

def EngineMode.ofByte (b : Byte) : Option EngineMode :=
  if b = 0 then some .run else if b = 1 then some .bypass else none

def CueLanding.ofByte (b : Byte) : Option CueLanding :=
  if b = 0 then some .atTrigger else if b = 1 then some .atPhrase else none

/-! ### The origin (9.5) -/

/-- Origin: source kind, bank, slot, cue tag, and marks (bit 0 edited, bit 1 detached). -/
def Origin.bytes (o : Origin) : List Byte :=
  let e := markByte o.edited
  match o.source with
  | .default => [0, absentByte, absentByte, absentByte, e]
  | .slot b i => [1, byteOfNat b, byteOfNat i, absentByte, e]
  | .overlay b i d => [2, byteOfNat b, byteOfNat i, absentByte, e ||| (markByte d <<< 1)]
  | .inline => [3, absentByte, absentByte, absentByte, e]
  | .cue t => [4, absentByte, absentByte, byteOfNat t, e]

/-! ### The scene record (9.7) -/

/-- A voice block's eight bytes. -/
def VoiceRule.bytes (v : VoiceRule) : List Byte :=
  [v.mode.byte, byteOfInt v.amount, byteOfNat v.low, byteOfNat v.high, byteOfInt v.detune, byteOfInt v.gain,
    byteOfInt v.pan, v.policy.byte]

/-- The flags byte at offset 21: bit 0 collision avoid, bit 1 onset mode. -/
def Scene.flags (sc : Scene) : Byte :=
  markByte sc.collisionAvoid ||| (markByte (sc.onsetMode = .atOnset) <<< 1)

/-- The 58 bytes of a scene record. -/
def Scene.bytes (sc : Scene) : List Byte :=
  sc.name ++ [byteOfNat sc.tonic, byteOfNat sc.scaleIndex, sc.keySource.byte, byteOfNat sc.correction,
    byteOfNat sc.hysteresis] ++ twoBytesNat sc.glide ++ twoBytesNat sc.crossfade ++ [sc.flags, byteOfInt sc.dryGain,
    byteOfInt sc.dryPan, byteOfNat sc.attack, byteOfNat sc.release] ++ sc.voices.v0.bytes ++ sc.voices.v1.bytes ++
    sc.voices.v2.bytes ++ sc.voices.v3.bytes

/-! ### Frames (9.2) -/

/-- The bytes of a frame of the reply queue: start, length, kind, sequence, the reply code where there is one, payload. -/
def ReplyFrame.bytes (f : ReplyFrame) : List Byte :=
  let body := f.kind :: f.seq :: (f.code.toList ++ f.payload)
  0x7E :: byteOfNat body.length :: body

end Sys2Proof.Machine
end

