-- ==== Sys2Proof/Machine/Flags.lean ====
section
/-! DEFINITION. The Notice Unit's sets: sources, pending and detected sets, attention and ATTN (10.1, R175, R176). -/

namespace Sys2Proof.Machine

/-- The sixteen notice sources (10.1). -/
inductive Source where
  | storeFault
  | audioClock
  | linkOverrun
  | cueLanded
  | cueDiscarded
  | resultsOverflow
  | storeDone
  | storeFailed
  | phraseStart
  | phraseEnd
  | chordChanged
  | chordUnrecognized
  | setOverflow
  | shortCrossfade
  | clip
  | outOfReach
  deriving DecidableEq, Repr

/-- The group of a source (10.1). -/
def Source.group : Source → Fin 6
  | .storeFault | .audioClock | .linkOverrun => 0
  | .cueLanded | .cueDiscarded | .resultsOverflow => 1
  | .storeDone | .storeFailed => 2
  | .phraseStart | .phraseEnd => 3
  | .chordChanged | .chordUnrecognized | .setOverflow => 4
  | .shortCrossfade | .clip | .outOfReach => 5

/-- The notice set that holds the source alone: its bit in the order of 10.1 (R175). -/
def Source.bit : Source → NoticeSet
  | .storeFault | .cueLanded | .storeDone | .phraseStart | .chordChanged | .shortCrossfade => 1
  | .audioClock | .cueDiscarded | .storeFailed | .phraseEnd | .chordUnrecognized | .clip => 2
  | .linkOverrun | .resultsOverflow | .setOverflow | .outOfReach => 4

/-- All the sources of a group: two in groups 2 and 3, three in the others (10.1). -/
def groupSources (g : Fin 6) : NoticeSet := if g = 2 ∨ g = 3 then 3 else 7

/-- The enabled set of a group; group 0 always holds all three (R175). -/
def Notices.enabledOf (u : Notices) (g : Fin 6) : NoticeSet :=
  if g = 0 then 7 else u.enabled[g.val - 1]?.getD 0

/-- The level of a group; group 0 has the fixed level 8 (R175). -/
def Notices.levelOf (u : Notices) (g : Fin 6) : Nat :=
  if g = 0 then 8 else u.levels[g.val - 1]?.getD 0

/-- The detected set of a group: pending and enabled (R175). -/
def Notices.detected (u : Notices) (g : Fin 6) : NoticeSet := u.pending[g] &&& u.enabledOf g

/-- A group raises attention (R176). -/
def Notices.attention (u : Notices) (g : Fin 6) : Bool :=
  u.detected g ≠ 0 && (g = 0 || u.mask < u.levelOf g)

/-- The groups 0 to 5. -/
def noticeGroups : List (Fin 6) := [0, 1, 2, 3, 4, 5]

/-- ATTN is driven low while at least one group raises attention (R176). -/
def Notices.attnLow (u : Notices) : Bool := noticeGroups.any u.attention

/-- Of two candidates for the top group the higher level wins, and the earlier between equal levels (R177). -/
def Notices.higher (u : Notices) (best : Option (Fin 6)) (g : Fin 6) : Option (Fin 6) :=
  match best with
  | none => some g
  | some b => if u.levelOf b < u.levelOf g then some g else some b

/-- The top group (R177). -/
def Notices.topGroup (u : Notices) : Option (Fin 6) :=
  (noticeGroups.filter u.attention).foldl u.higher none

/-- Raising a source adds it to its group's pending set, enabled or not (R175). -/
def Notices.raise (u : Notices) (src : Source) : Notices :=
  { u with pending := u.pending.set src.group (u.pending[src.group] ||| src.bit) }

/-- Whether a source is pending. -/
def Notices.isPending (u : Notices) (src : Source) : Bool := u.pending[src.group] &&& src.bit ≠ 0

/-- CLEAR NOTICES removes the named sources from a group's pending set (R178). -/
def Notices.clear (u : Notices) (g : Fin 6) (set : NoticeSet) : Notices :=
  { u with pending := u.pending.set g (u.pending[g] &&& ~~~set) }

end Sys2Proof.Machine
end

