-- ==== Sys2Proof/Machine/Coefficients.lean ====
section
/-! DEFINITION. The mixer's coefficients (R108, R109) and the planner's ratio (R68), each the exact rounding of the manual's
real formula. -/

namespace Sys2Proof.Machine

/-- The gain coefficient of a gain given as a count of half-decibel steps (R108): `round (16384 * 10 ^ (count / 40))`, and 0
at -60 dB, count -120. Twice the exact value is the 40th root of `32768 ^ 40 * 10 ^ count`. -/
def gainCoeff (count : Int) : Nat :=
  if count ≤ -120 then 0
  else (floorRoot 40 (32768 ^ 40 * 10 ^ count.toNat / 10 ^ (-count).toNat) 17 + 1) / 2

/-- The left pan coefficient of pan `p` (R109): `round (16384 * cos θ)` with `θ = (p + 50) / 100 * 90°`. -/
def panLeft (p : Int) : Nat := cosCoeff (p + 50).toNat

/-- The right pan coefficient of pan `p` (R109): `sin θ` is the cosine of the angle that completes `θ` to 90°. -/
def panRight (p : Int) : Nat := cosCoeff (50 - p).toNat

/-- The coefficient set of a gain and a pan (5.3). -/
def coeffs (gain pan : Int) : Coeffs := ⟨gainCoeff gain, panLeft pan, panRight pan⟩

/-- The ratio of an applied shift (R68): `round (8192 * 2 ^ (Δa / 1200))`. Twice the exact value is the 1200th root of
`2 ^ (16800 + Δa)`. -/
def ratioOf (shift : Int) : Nat := (floorRoot 1200 (2 ^ (16800 + shift).toNat) 17 + 1) / 2

end Sys2Proof.Machine
end

