-- ==== Sys2Proof/Machine/Defaults.lean ====
section
/-! DEFINITION. The defaults of the setup, the default scene, and the value each block takes at a reset. -/

namespace Sys2Proof.Machine

/-! ### Setup defaults -/

/-- R6, R22. -/
def defaultTrackerSettings : TrackerSettings := ⟨80, 1000, -50, 70, 50, 6, 30⟩

/-- R8. -/
def defaultTuning : Nat := 4400

/-- The lower end of the search range, `ceil (768000 / high_hz)` (R5). -/
def TrackerSettings.tLo (c : TrackerSettings) : Nat := (768000 + c.highHz - 1) / c.highHz

/-- The upper end of the search range, `floor (768000 / low_hz)` (R5). -/
def TrackerSettings.tHi (c : TrackerSettings) : Nat := 768000 / c.lowHz

/-- The pitch-class set with the given members (2.2). -/
def pitchSet (members : List Nat) : PitchSet := BitVec.ofNat 12 (members.foldl (fun s c => s ||| 2 ^ c) 0)

/-- The scale table after power-on and pin reset (R29). -/
def defaultScales : Vector PitchSet 16 :=
  #v[pitchSet [0, 2, 4, 5, 7, 9, 11], pitchSet [0, 2, 3, 5, 7, 8, 10], pitchSet [0, 2, 3, 5, 7, 8, 11],
    pitchSet [0, 2, 3, 5, 7, 9, 11], pitchSet [0, 2, 3, 5, 7, 9, 10], pitchSet [0, 2, 4, 5, 7, 9, 10],
    pitchSet [0, 2, 4, 6, 7, 9, 11], pitchSet [0, 1, 3, 5, 7, 8, 10], pitchSet [0, 2, 4, 7, 9],
    pitchSet [0, 3, 5, 7, 10], pitchSet [0, 3, 5, 6, 7, 10], pitchSet [0, 2, 4, 6, 8, 10],
    pitchSet [0, 1, 2, 3, 4, 5, 6, 7, 8, 9, 10, 11], pitchSet [0, 2, 4, 5, 7, 9, 11],
    pitchSet [0, 2, 4, 5, 7, 9, 11], pitchSet [0, 2, 4, 5, 7, 9, 11]]

/-- The chord template table after power-on and pin reset (R31). -/
def defaultTemplates : Vector Template 12 :=
  #v[⟨pitchSet [0, 4, 7], 0⟩, ⟨pitchSet [0, 3, 7], 1⟩, ⟨pitchSet [0, 4, 7, 10], 5⟩, ⟨pitchSet [0, 3, 7, 10], 4⟩,
    ⟨pitchSet [0, 4, 7, 11], 0⟩, ⟨pitchSet [0, 5, 7], 5⟩, ⟨pitchSet [0, 2, 7], 0⟩, ⟨pitchSet [0, 3, 6], 2⟩,
    ⟨pitchSet [0, 4, 8], 11⟩, ⟨pitchSet [0, 3, 6, 10], 7⟩, ⟨pitchSet [0, 7], 0⟩, ⟨pitchSet [0, 4, 7, 9], 0⟩]

/-! ### The default scene (R118) -/

/-- "DEFAULT", padded with spaces to 12 characters. -/
def defaultName : List Byte := [0x44, 0x45, 0x46, 0x41, 0x55, 0x4C, 0x54, 0x20, 0x20, 0x20, 0x20, 0x20]

def defaultVoiceRule : VoiceRule :=
  { mode := .off, amount := 0, low := 48, high := 84, detune := 0, gain := -12, pan := 0, policy := .mute }

def defaultScene : Scene :=
  { name := defaultName, tonic := 0, scaleIndex := 0, keySource := .scene, correction := 100, hysteresis := 15, glide := 0,
    crossfade := 128, collisionAvoid := true, onsetMode := .atVoiced, dryGain := 0, dryPan := 0, attack := 2, release := 8,
    voices := Four.all defaultVoiceRule }

/-! ### The blocks after a reset -/

/-- The published record before the first frame completion after a reset or a clock return (R20). -/
def initialRecord (c : TrackerSettings) : FrameRecord :=
  { state := .silent, level := -96, q := 0, t16 := c.tLo, held := none, lastAccepted := none, event := .none }

/-- The tracker with the running state of R22, under given settings and tuning reference. -/
def trackerAtRest (c : TrackerSettings) (fRef : Nat) : Tracker :=
  { settings := c, fRef := fRef, window := List.replicate 1024 0, framePos := 0, state := .silent, onsetCount := 0,
    holdCount := 0, silenceCount := 0, betweenPhrases := true, held := none, jumpPending := none, lastAccepted := none,
    record := initialRecord c, phraseStartsAwaiting := 0 }

/-- The Key Context Unit after power-on and pin reset (R44). -/
def keyDefaults : KeyContext :=
  { notes := [], context := .none, scales := defaultScales, templates := defaultTemplates, policy := .latch }

/-- The planner's values for one voice after a reset or a clock return (R74). -/
def planVoiceAtRest : PlanVoice :=
  { planned := none, notePart := 0, shift := 0, ratio := 8192, outOfReach := false, doubledOut := false, command := .close }

/-- The planner after a reset or a clock return (R74). -/
def plannerAtRest : Planner := { prevLead := none, voices := Four.all planVoiceAtRest }

/-- A voice channel after a reset or a clock return (R98, R101). -/
def channelAtRest : Channel :=
  { env := .closed, level := 0, active := none, fade := none, ratio := 8192, command := .close }

/-- The engine with the values of R98 and R101, in a given state, under a scene. -/
def engineAtRest (st : EngineState) (sc : Scene) : Engine :=
  { state := st, ring := [], w := 0, channels := Four.all channelAtRest, crossfade := sc.crossfade, attack := sc.attack,
    release := sc.release }

/-- The output frame of zeros (R103). -/
def zeroOut : OutFrame := ⟨0, 0, 0, 0⟩

/-- The port after a reset (R106). The manual gives no reset value for samples formed and not yet sent or being sent: the
model discards the first and sends zeros in place of the second (log 26), and has no gap open (log 13). -/
def portAtReset : Port :=
  { clock := .absent, qualifying := 0, lastWindowCount := 0, windowCount := 0, windowGap := false, gapOpen := false,
    formed := none, sending := zeroOut }

/-- The coefficient sets of a scene, with mode, ramp and clip mark given (R107). -/
def mixerWith (mode : EngineMode) (ramp : Nat) (clip : Bool) (sc : Scene) : Mixer :=
  { mode := mode, ramp := ramp, clip := clip, dry := coeffs sc.dryGain sc.dryPan,
    voices := sc.voices.map fun v => coeffs v.gain v.pan }

/-- The mixer after a reset (R114). -/
def mixerAtReset : Mixer := mixerWith .run 64 false defaultScene

/-- The Working Scene after a reset (R118, R119). -/
def workingAtReset : Working := { scene := defaultScene, origin := ⟨.default, false⟩, follow := none }

/-- The overlay after a reset (R127). -/
def overlayAtReset : Overlay := { mapped := none, ram := Vector.replicate 8 none }

/-- The Cue Queue after a reset (R153). -/
def cuesAtReset : CueQueue := { queue := [], counter := 0, results := [] }

/-- The state a header reads (8.1). -/
def Slot.state : Slot → SlotState
  | .blank => .blank
  | .valid _ => .valid
  | .incomplete => .incomplete

/-- The store after a reset: no operation, latch and freeze clear, the table filled by the scan of the headers (R164). -/
def storeAtReset (array : Vector Slot 64) (supplyHigh : Bool) : SceneStore :=
  { array := array, table := array.map Slot.state, op := none, latch := false, frozen := false, supplyHigh := supplyHigh }

/-- The link after a reset that read the LINKSPD strap so (R165, R172). -/
def linkAtReset (linkspdHigh : Bool) : Link :=
  { highRate := linkspdHigh, assembler := .hunt, fifo := [], replies := [], stopped := false }

/-- The Notice Unit after a reset (R175). -/
def noticesAtReset : Notices :=
  { pending := Vector.replicate 6 0, enabled := Vector.replicate 5 0, levels := Vector.replicate 5 0, mask := 0 }

end Sys2Proof.Machine
end

