-- ==== Sys2Proof/Machine/State.lean ====
section
/-! DEFINITION. The state of the part, the reasons a step can stop, and the state after reset. -/

namespace Sys2Proof.Machine

/-- The state of the part: its twelve blocks (0.3), the start-up, and the queue of commands that wait. ATTN and the detected
sets are kept by the Notice Unit equal to functions of `notices` (R175, R176) and are computed from it. -/
structure State where
  tracker : Tracker
  key : KeyContext
  planner : Planner
  engine : Engine
  port : Port
  mixer : Mixer
  working : Working
  overlay : Overlay
  cues : CueQueue
  store : SceneStore
  link : Link
  notices : Notices
  start : StartUp
  pending : List Instr
  deriving DecidableEq, Repr

/-- The faults of the part. There is none: the manual gives every event and every request an effect or a reply, and no
command ends the machine. -/
inductive Fault where
  deriving DecidableEq, Repr

/-- The refusals. No meaning answers with one. -/
inductive Refusal where
  /-- Raised by exec's arm of a command that has no meaning in the model; safe, since nothing is claimed of it. No arm of
  this model raises it. -/
  | notModelled (mnemonic : String)
  deriving DecidableEq, Repr

/-- The part right after a power-on reset (R180): every block at its reset value, the start-up self-check running, no command
waiting. The store's slots, which survive every reset and for which the manual gives no first content, are BLANK, the store
supply sense is high, and LINKSPD read low: DESIGN CHOICE, logs 3 and 4. -/
def State.reset : State :=
  { tracker := trackerAtRest defaultTrackerSettings defaultTuning
    key := keyDefaults
    planner := plannerAtRest
    engine := engineAtRest (.stalled .clock) defaultScene
    port := portAtReset
    mixer := mixerAtReset
    working := workingAtReset
    overlay := overlayAtReset
    cues := cuesAtReset
    store := storeAtReset (Vector.replicate 64 .blank) true
    link := linkAtReset false
    notices := noticesAtReset
    start := ⟨.selfCheck, .powerOn⟩
    pending := [] }

end Sys2Proof.Machine
end

