-- ==== Sys2Proof/Machine/Ops.lean ====
section
/-! DEFINITION. The shared operations: the capture ring's memory, raising a notice, the request FIFO and the reply queue,
dispatch, declaring the clock absent, restarting at its return, and taking a reset. -/

namespace Sys2Proof.Machine

/-! ### The capture ring (R75)

The ring is held as the list of its non-zero samples by index, indices strictly rising: an index that is not listed holds the
zero every reset and clock return leaves there. -/

/-- The sample an index of the ring holds when it is not listed (R75, R98). -/
def ringDefault : Sample := 0

/-- The sample at an index of the ring. -/
def ringRead : List (Nat × Sample) → Nat → Sample
  | [], _ => ringDefault
  | (a, x) :: rest, i => if a = i then x else ringRead rest i

/-- The ring with one sample written. -/
def ringWrite : List (Nat × Sample) → Nat → Sample → List (Nat × Sample)
  | [], i, x => if x = ringDefault then [] else [(i, x)]
  | (a, y) :: rest, i, x =>
    if a < i then (a, y) :: ringWrite rest i x
    else if a = i then (if x = ringDefault then rest else (i, x) :: rest)
    else (if x = ringDefault then (a, y) :: rest else (i, x) :: (a, y) :: rest)

/-- Every listed index is above `lo`, the indices rise strictly, and no listed sample equals what an unlisted index reads. -/
def ringSorted : Option Nat → List (Nat × Sample) → Bool
  | _, [] => true
  | lo, (a, x) :: rest => (match lo with | none => true | some l => l < a) && x ≠ ringDefault && ringSorted (some a) rest

/-- The canonical form of the ring, with every index below 4096 (R75). -/
def ringWf (r : List (Nat × Sample)) : Bool := ringSorted none r && r.all fun c => c.1 < 4096

/-! ### Notices -/

/-- A block raises a source into the Notice Unit (R175). -/
def State.raise (s : State) (src : Source) : State := { s with notices := s.notices.raise src }

/-- Raise a source where a condition holds. -/
def State.raiseIf (s : State) (c : Bool) (src : Source) : State := if c then s.raise src else s

/-! ### The link -/

/-- An entry offered to the request FIFO joins at the back, or is dropped with LINK OVERRUN (R169). -/
def State.offer (s : State) (e : FifoEntry) : State :=
  if s.link.fifo.length < 4 then { s with link := { s.link with fifo := s.link.fifo ++ [e] } }
  else s.raise .linkOverrun

/-- Queue a frame at the back of the reply queue (R171). -/
def State.queueFrame (s : State) (f : ReplyFrame) : State :=
  { s with link := { s.link with replies := s.link.replies ++ [f] } }

/-- What a block gives back for a request: a reply code and a payload (R170 step 4). -/
structure Reply where
  code : ReplyCode
  payload : List Byte
  deriving DecidableEq, Repr

/-- A reply without payload (R170). -/
def Reply.bare (c : ReplyCode) : Reply := ⟨c, []⟩

/-- An OK reply (9.5). -/
def Reply.ok (payload : List Byte) : Reply := ⟨.ok, payload⟩

/-- Queue the reply to a request: kind + 80h, the sequence unchanged (R170). -/
def State.answer (s : State) (kind seq : Byte) (r : Reply) : State :=
  s.queueFrame { kind := kind + 0x80, seq := seq, code := some r.code.byte, payload := r.payload }

/-- The dispatch stage takes the given entry: it stands at the front of the FIFO, the reply queue has room, READY has been
queued and no RESET has been taken (R169, R172, R173). The entry leaves the FIFO. -/
def State.take (s : State) (e : FifoEntry) : Option State :=
  if s.start.phase = .up ∧ s.link.stopped = false ∧ s.link.replies.length < 4 ∧ s.link.fifo.head? = some e then
    some { s with link := { s.link with fifo := s.link.fifo.tail } }
  else none

/-- Dispatch of a request: the frame is taken, a payload of a length the catalogue does not give is answered BAD_LENGTH, and
otherwise the owning block does its work and its reply is queued (R170). A frame that cannot be taken now waits (log 1). -/
def dispatch {α : Type} (kind seq : Byte) (payload : List Byte) (parse : List Byte → Option α)
    (work : α → State → State × Reply) (s : State) : State :=
  match s.take (.frame kind seq payload) with
  | none => s
  | some s1 =>
    match parse payload with
    | none => s1.answer kind seq (.bare .badLength)
    | some a => ((work a s1).1).answer kind seq (work a s1).2

/-- Dispatch of a request that changes no state beyond the link's: `report` is its reply. -/
def dispatchRead {α : Type} (kind seq : Byte) (payload : List Byte) (parse : List Byte → Option α)
    (report : α → State → Reply) (s : State) : State :=
  dispatch kind seq payload parse (fun a s => (s, report a s)) s

/-! ### The audio clock (5.2, 4.7) -/

/-- The audio clock is declared absent (R104): ABSENT, qualifying count 0, the formed output samples discarded (R103), AUDIO
CLOCK raised, and a RUNNING engine STALLED with cause CLOCK; a STALLED engine keeps its cause (R76, R99). -/
def State.declareAbsent (s : State) : State :=
  { s with
    port := { s.port with clock := .absent, qualifying := 0, formed := none }
    engine := { s.engine with state := if s.engine.state = .running then .stalled .clock else s.engine.state }
    notices := s.notices.raise .audioClock }

/-- What every return of the clock does to the blocks beside the engine: R22 for the tracker, R74 for the planner, R114 for
the mixer. PHRASE STARTs that await the Cue Queue go on waiting (log 8). -/
def State.audioReturn (s : State) : State :=
  { s with
    tracker := { trackerAtRest s.tracker.settings s.tracker.fRef with phraseStartsAwaiting := s.tracker.phraseStartsAwaiting }
    planner := plannerAtRest
    mixer := mixerWith s.mixer.mode (if s.mixer.mode = .run then 64 else 0) false s.working.scene }

/-- The restart of the audio blocks at the clock's return, the engine with them (R22, R74, R98, R114). -/
def State.clockReturn (s : State) : State := { s.audioReturn with engine := engineAtRest .running s.working.scene }

/-! ### Taking a reset (R180) -/

/-- The setup after a reset: a soft reset keeps it, the others return it to its defaults (R22, R44, 10.3). -/
def KeyContext.atReset (keep : Bool) (k : KeyContext) : KeyContext :=
  if keep then { k with notes := [], context := .none } else keyDefaults

def Tracker.atReset (keep : Bool) (t : Tracker) : Tracker :=
  if keep then trackerAtRest t.settings t.fRef else trackerAtRest defaultTrackerSettings defaultTuning

/-- Taking a reset of a kind, the LINKSPD strap read as given, the start-up going on in the given phase: every block takes
its reset values (R22, R44, R74, R101, R106, R114, R119, R127, R153, R164, R172, R175, R180). -/
def State.takeReset (s : State) (kind : ResetKind) (linkspdHigh : Bool) (phase : StartPhase) : State :=
  { tracker := s.tracker.atReset (kind = .soft)
    key := s.key.atReset (kind = .soft)
    planner := plannerAtRest
    engine := engineAtRest (.stalled .clock) defaultScene
    port := portAtReset
    mixer := mixerAtReset
    working := workingAtReset
    overlay := overlayAtReset
    cues := cuesAtReset
    store := storeAtReset s.store.array s.store.supplyHigh
    link := linkAtReset linkspdHigh
    notices := noticesAtReset
    start := ⟨phase, kind⟩
    pending := s.pending }

end Sys2Proof.Machine
end

