-- ==== Sys2Proof/Machine/Mixer.lean ====
section
/-! DEFINITION. The Output Mixer: the bypass ramp, the four output samples, saturation (chapter 5). -/

namespace Sys2Proof.Machine

/-- The bypass ramp's step at a sample event (R113). -/
def rampStep (mode : EngineMode) (b : Nat) : Nat :=
  match mode with
  | .bypass => if 0 < b then b - 1 else b
  | .run => if b < 64 then b + 1 else b

/-- A path's term: signal times gain times pan (R110). -/
def pathTerm (x : Int) (c : Coeffs) (pan : Coeffs → Nat) : Int := x * c.gain * pan c

/-- The sum of the four voices' terms (R110). -/
def voiceSum (vs : Four Int) (cs : Four Coeffs) (pan : Coeffs → Nat) : Int :=
  pathTerm vs.v0 cs.v0 pan + pathTerm vs.v1 cs.v1 pan + pathTerm vs.v2 cs.v2 pan + pathTerm vs.v3 cs.v3 pan

/-- One side of MAIN before saturation: the dry term and `b / 64` of the voices', over `2 ^ 28`, rounded once (R110). -/
def mainSum (m : Mixer) (b : Nat) (dry : Int) (vs : Four Int) (pan : Coeffs → Nat) : Int :=
  roundDiv (64 * pathTerm dry m.dry pan + b * voiceSum vs m.voices pan) (64 * 2 ^ 28)

/-- One side of HARM before saturation (R110). -/
def harmSum (m : Mixer) (b : Nat) (vs : Four Int) (pan : Coeffs → Nat) : Int :=
  roundDiv (b * voiceSum vs m.voices pan) (64 * 2 ^ 28)

/-- Saturation to 24-bit full scale (R111). -/
def saturate (x : Int) : Int := clampInt (-8388608) 8388607 x

/-- A value is saturated. -/
def saturates (x : Int) : Bool := saturate x ≠ x

/-- The mixer after a sample event, its output samples, and whether CLIP is raised. -/
structure MixStep where
  mixer : Mixer
  out : OutFrame
  clip : Bool
  deriving DecidableEq, Repr

/-- A sample event in the mixer: the ramp steps, the four samples are formed and saturated, the clip mark is set (R110, R111,
R113). -/
def Mixer.sample (m : Mixer) (dry : Int) (vs : Four Int) : MixStep :=
  let b := rampStep m.mode m.ramp
  let ml := mainSum m b dry vs Coeffs.panLeft
  let mr := mainSum m b dry vs Coeffs.panRight
  let hl := harmSum m b vs Coeffs.panLeft
  let hr := harmSum m b vs Coeffs.panRight
  let clipped := saturates ml || saturates mr || saturates hl || saturates hr
  { mixer := { m with ramp := b, clip := m.clip || clipped }
    out := ⟨BitVec.ofInt 24 (saturate ml), BitVec.ofInt 24 (saturate mr), BitVec.ofInt 24 (saturate hl),
      BitVec.ofInt 24 (saturate hr)⟩
    clip := clipped && !m.clip }

/-- At a frame completion the mixer takes its coefficient sets from the scene, and the clip mark is cleared (R107, R111). -/
def Mixer.takeUp (m : Mixer) (sc : Scene) : Mixer := mixerWith m.mode m.ramp false sc

end Sys2Proof.Machine
end

