-- ==== Sys2Proof/Machine/KeyContext.lean ====
section
/-! DEFINITION. The Key Context Unit: the chord note set, recognition, the chord context and its release, the key in effect
(chapter 2). -/

namespace Sys2Proof.Machine

/-! ### Recognition (2.5) -/

/-- The scale set of an entry (R29). -/
def KeyContext.scaleSet (k : KeyContext) (i : Nat) : PitchSet := k.scales[i]?.getD 1

/-- A template entry (R31). -/
def KeyContext.template (k : KeyContext) (t : Nat) : Template := k.templates[t]?.getD ⟨1, 0⟩

/-- Class `c` is a member of the set shifted up by `r`: it equals `(i + r)` modulo 12 for a member `i` (2.2, R33). -/
def memShifted (s : PitchSet) (r c : Nat) : Bool := s.getLsbD ((c + 12 - r % 12) % 12)

/-- The set with the root applied: absolute pitch classes (2.2, R37). -/
def shiftSet (s : PitchSet) (r : Nat) : PitchSet := pitchSet ((List.range 12).filter (memShifted s r))

/-- The pair of a template's intervals and a root qualifies for the held notes: the root is held, and every held class is a
tone of the chord (R33). -/
def qualifies (notes : List Nat) (intervals : PitchSet) (root : Nat) : Bool :=
  notes.any (fun n => n % 12 = root) && notes.all fun n => memShifted intervals root (n % 12)

/-- The class of the lowest held note (R33). -/
def bassClass (notes : List Nat) : Nat := (notes.min?.getD 0) % 12

/-- The first qualifying root counting upward from the bass, the bass itself first (R34). -/
def rootFor (notes : List Nat) (intervals : PitchSet) : Option Nat :=
  ((List.range 12).map fun d => (bassClass notes + d) % 12).find? (qualifies notes intervals)

/-- The recognised chord as (entry, root): the smallest qualifying entry, then its root (R34). -/
def KeyContext.recognise (k : KeyContext) : Option (Nat × Nat) :=
  (List.range 12).findSome? fun t => (rootFor k.notes (k.template t).intervals).map fun r => (t, r)

/-- The root and entry of a chord context (R37). -/
def ChordContext.chord? : ChordContext → Option (Nat × Nat)
  | .none => Option.none
  | .active r t => some (r, t)
  | .latched r t => some (r, t)

/-- A unit after a request, with the CHORD notices it raised (R41). -/
structure KeyResult where
  key : KeyContext
  changed : Bool
  unrecognised : Bool
  overflow : Bool
  deriving DecidableEq, Repr

/-- Recognition on the set as it stands, and its outcome on the chord context (R33, R34, R35). -/
def KeyContext.runRecognition (k : KeyContext) (overflow : Bool) : KeyResult :=
  match k.recognise with
  | some (t, r) => ⟨{ k with context := .active r t }, k.context.chord? ≠ some (r, t), false, overflow⟩
  | Option.none => ⟨k, false, true, overflow⟩

/-- The release of the chord context when a NOTE OFF empties the set (R36). -/
def KeyContext.releaseChord (k : KeyContext) : KeyResult :=
  match k.context, k.policy with
  | .none, _ => ⟨k, false, false, false⟩
  | .active r t, .latch => ⟨{ k with context := .latched r t }, false, false, false⟩
  | .latched _ _, .latch => ⟨k, false, false, false⟩
  | _, .clear => ⟨{ k with context := .none }, true, false, false⟩

/-! ### The note set (2.1) -/

/-- The action a NOTE request was taken with (R24), with the evicted note. -/
inductive NoteAction where
  | added
  | addedWithEviction (evicted : Nat)
  | alreadyHeld
  | removed
  | notHeld
  deriving DecidableEq, Repr

/-- The action taken and the evicted note, FFh where there is none (9.5, 9.7). -/
def NoteAction.bytes : NoteAction → List Byte
  | .added => [0, absentByte]
  | .addedWithEviction n => [1, byteOfNat n]
  | .alreadyHeld => [2, absentByte]
  | .removed => [3, absentByte]
  | .notHeld => [4, absentByte]

/-- NOTE ON (R25, R26). -/
def KeyContext.noteOn (k : KeyContext) (n : Nat) : NoteAction × KeyResult :=
  if n ∈ k.notes then (.alreadyHeld, ⟨k, false, false, false⟩)
  else if k.notes.length < 10 then (.added, { k with notes := k.notes ++ [n] }.runRecognition false)
  else (.addedWithEviction (k.notes.headD 0), { k with notes := k.notes.tail ++ [n] }.runRecognition true)

/-- NOTE OFF (R27). -/
def KeyContext.noteOff (k : KeyContext) (n : Nat) : NoteAction × KeyResult :=
  if n ∈ k.notes then
    (.removed,
      if k.notes.erase n = [] then { k with notes := [] }.releaseChord
      else { k with notes := k.notes.erase n }.runRecognition false)
  else (.notHeld, ⟨k, false, false, false⟩)

/-- NOTES CLEAR (R28). -/
def KeyContext.clearNotes (k : KeyContext) : KeyResult :=
  ⟨{ k with notes := [], context := .none }, k.context ≠ .none, false, false⟩

/-! ### The key in effect (2.7) -/

/-- The planning view (R39); the chord tones are absent in NONE. `scaleSet` is relative to the tonic. -/
structure PlanningView where
  fromChord : Bool
  tonic : Nat
  scaleIndex : Nat
  scaleSet : PitchSet
  context : ChordContext
  chordTones : Option PitchSet
  deriving DecidableEq, Repr

/-- The chord tones (R37). -/
def KeyContext.chordTones (k : KeyContext) : Option PitchSet :=
  k.context.chord?.map fun (r, t) => shiftSet (k.template t).intervals r

/-- The planning view under a scene (R39); also the key READ CONTEXT and MONITOR report (R42, R43), under the scene in force
even while a follow record waits (log 25). -/
def KeyContext.view (k : KeyContext) (sc : Scene) : PlanningView :=
  match sc.keySource, k.context.chord? with
  | .chord, some (r, t) =>
    { fromChord := true, tonic := r, scaleIndex := (k.template t).scaleIndex,
      scaleSet := k.scaleSet (k.template t).scaleIndex, context := k.context, chordTones := k.chordTones }
  | _, _ =>
    { fromChord := false, tonic := sc.tonic, scaleIndex := sc.scaleIndex, scaleSet := k.scaleSet sc.scaleIndex,
      context := k.context, chordTones := k.chordTones }

/-- Key from, tonic and scale index as bytes (9.5). -/
def PlanningView.keyBytes (v : PlanningView) : List Byte :=
  [if v.fromChord then 1 else 0, byteOfNat v.tonic, byteOfNat v.scaleIndex]

/-- Store a scale set with class 0 added (R30). -/
def KeyContext.setScale (k : KeyContext) (entry : Nat) (set : PitchSet) : KeyContext :=
  { k with scales := k.scales.setIfInBounds entry (set ||| 1) }

/-- Store a template with class 0 added and the scale index clamped (R32). -/
def KeyContext.setTemplate (k : KeyContext) (entry : Nat) (set : PitchSet) (index : Nat) : KeyContext :=
  { k with templates := k.templates.setIfInBounds entry ⟨set ||| 1, clampNat 0 15 index⟩ }

end Sys2Proof.Machine
end

