-- ==== Sys2Proof/Machine/Measures.lean ====
section
/-! DEFINITION. The frame measures of the Pitch Tracker (R2, R3, R4, R9), computed exactly: every comparison of the manual's
logarithms, square roots and quotients is made between whole numbers (log 12). -/

namespace Sys2Proof.Machine

/-- The energy of a stretch: the sum of the squares of its samples. -/
def energy (xs : List Sample) : Nat := xs.foldl (fun acc x => acc + x.toInt.natAbs ^ 2) 0

/-- The sum of the products of two stretches, sample by sample. -/
def product (xs ys : List Sample) : Int := (xs.zip ys).foldl (fun acc p => acc + p.1.toInt * p.2.toInt) 0

/-- The newest 256 samples of the window (1.1). -/
def newest (window : List Sample) : List Sample := window.take 256

/-- The 256 samples that lie `lag` earlier (R3). -/
def earlier (window : List Sample) (lag : Nat) : List Sample := (window.drop lag).take 256

/-- The level of a frame (R2) from the sum of squares of its 256 samples: the greatest `l` in -96..0 with
`10 * log10 (sum / 2 ^ 54) ≥ l - 1 / 2`, that is `sum ^ 20 * 10 ^ (1 - 2 l) ≥ 2 ^ 1080`, and -96 where there is none. -/
def levelOf (sum : Nat) : Int :=
  match (List.range 97).find? fun (k : Nat) => 2 ^ 1080 ≤ sum ^ 20 * 10 ^ (1 + 2 * k) with
  | some k => -(k : Int)
  | none => -96

/-- A correlation `num / sqrt (energy0 * energy)`, where `energy0`, the energy of the newest 256 samples, is common to every
lag of a frame (R3). -/
structure Corr where
  num : Int
  energy : Nat
  deriving DecidableEq, Repr

/-- The correlation at a lag, 0 where either stretch has zero energy (R3). -/
def corrAt (window : List Sample) (energy0 lag : Nat) : Corr :=
  if energy0 = 0 then ⟨0, 1⟩
  else if energy (earlier window lag) = 0 then ⟨0, 1⟩
  else ⟨product (newest window) (earlier window lag), energy (earlier window lag)⟩

/-- One correlation lies below another: `num * |num| / energy` orders them. -/
def Corr.lt (a b : Corr) : Bool := a.num * a.num.natAbs * b.energy < b.num * b.num.natAbs * a.energy

/-- The lag with the highest correlation among `lag .. lag + n`, the smallest of several equal ones, given the best so far. -/
def peakFrom (window : List Sample) (energy0 : Nat) : Nat → Nat → Nat × Corr → Nat × Corr
  | _, 0, best => best
  | lag, n + 1, best =>
    let c := corrAt window energy0 lag
    peakFrom window energy0 (lag + 1) n (if best.2.lt c then (lag, c) else best)

/-- The chosen lag τp among τa..τb with its correlation (R3). -/
def peak (window : List Sample) (energy0 lagA lagB : Nat) : Nat × Corr :=
  peakFrom window energy0 (lagA + 1) (lagB - lagA) (lagA, corrAt window energy0 lagA)

/-- The sign of `a √A + b √B`. -/
def signSurd2 (a : Int) (A : Nat) (b : Int) (B : Nat) : Int := (a * a.natAbs * A + b * b.natAbs * B).sign

/-- The sign of `a √A + b √B + c √C`: with σ the sign of the first two terms together, it is the sign of
`σ (a² A + b² B) + c |c| C + 2 σ a b √(A B)`. -/
def signSurd3 (a : Int) (A : Nat) (b : Int) (B : Nat) (c : Int) (C : Nat) : Int :=
  let σ := signSurd2 a A b B
  signSurd2 (σ * (a * a * A + b * b * B) + c * c.natAbs * C) 1 (2 * σ * a * b) (A * B)

/-- The sign of `x r1 + y r2 + z r3` for three correlations of one frame. -/
def signCorrs (x : Int) (r1 : Corr) (y : Int) (r2 : Corr) (z : Int) (r3 : Corr) : Int :=
  signSurd3 (x * r1.num) (r2.energy * r3.energy) (y * r2.num) (r1.energy * r3.energy) (z * r3.num) (r1.energy * r2.energy)

/-- Sixteen times the offset δ of R3, rounded with halves upward, within -8..8: 0 where d is not below zero, and otherwise the
greatest k with `16 δ ≥ k - 1 / 2`, that is `16 (r1 - r3) ≤ (2 k - 1) d`. -/
def refine (r1 r2 r3 : Corr) : Int :=
  if signCorrs 1 r1 (-2) r2 1 r3 < 0 then
    match (List.range 16).find? fun (i : Nat) =>
      let m : Int := 2 * (8 - (i : Int)) - 1
      signCorrs (16 - m) r1 (2 * m) r2 (-16 - m) r3 ≤ 0 with
    | some i => 8 - (i : Int)
    | none => -8
  else 0

/-- The period estimate T16 from the chosen lag and the three correlations around it (R3). -/
def periodOf (tLo tHi lag : Nat) (r1 r2 r3 : Corr) : Nat :=
  (clampInt tLo tHi (16 * (lag : Int) + refine r1 r2 r3)).toNat

/-- The confidence q from the correlation at the chosen lag (R4): `round (100 r)`, the whole part of `200 r` being the square
root of `40000 num² / (energy0 * energy)`. -/
def confidenceOf (energy0 : Nat) (r : Corr) : Nat :=
  if 0 < r.num then (floorRoot 2 (40000 * r.num.natAbs ^ 2 / (energy0 * r.energy)) 8 + 1) / 2 else 0

/-- The frame pitch (R9): `6900 + 1200 * log2 (7680000 / (T16 * f_ref))` rounded. -/
def pitchOf (t16 fRef : Nat) : Int := 6900 + (floorLog2Ratio (7680000 ^ 2400) ((t16 * fRef) ^ 2400) + 1) / 2

/-- The three frame measures (1.2). -/
structure Measures where
  level : Int
  t16 : Nat
  q : Nat
  deriving DecidableEq, Repr

/-- The measures of a window under a search range (R2, R3, R4), with τa = floor (Tlo / 16) and τb = ceil (Thi / 16). -/
def measure (window : List Sample) (tLo tHi : Nat) : Measures :=
  let e0 := energy (newest window)
  let p := peak window e0 (tLo / 16) ((tHi + 15) / 16)
  { level := levelOf e0
    t16 := periodOf tLo tHi p.1 (corrAt window e0 (p.1 - 1)) p.2 (corrAt window e0 (p.1 + 1))
    q := confidenceOf e0 p.2 }

end Sys2Proof.Machine
end

