-- ==== Sys2Proof/Machine/Tracker.lean ====
section
/-! DEFINITION. The Pitch Tracker: taking a sample, the voicing transition, the accepted pitch, silence and phrases (chapter 1). -/

namespace Sys2Proof.Machine

/-- A sample event: append to the window, drop its oldest, advance the frame position (R1). -/
def Tracker.takeSample (t : Tracker) (x : Sample) : Tracker :=
  { t with window := (x :: t.window).take 1024, framePos := (t.framePos + 1) % 256 }

/-- A voicing state with the onset and hold counts. -/
structure Voice3 where
  state : Voicing
  onset : Nat
  hold : Nat
  deriving DecidableEq, Repr

/-- SILENT below the gate, UNVOICED otherwise (1.5). -/
def byLevel (loud : Bool) : Voicing := if loud then .unvoiced else .silent

/-- The transition of one frame completion (R10 to R14), from the state before and the counts, with `loud` for a level at or
above the gate. -/
def transition (c : TrackerSettings) (v : Voice3) (loud : Bool) (q : Nat) : Voice3 :=
  match v.state with
  | .silent | .unvoiced =>
    if loud && c.qOn ≤ q then ⟨.onset, 1, v.hold⟩ else { v with state := byLevel loud }
  | .onset =>
    if !loud then ⟨.silent, 0, v.hold⟩
    else if c.qOn ≤ q then (if v.onset + 1 = 3 then ⟨.voiced, 0, v.hold⟩ else { v with onset := v.onset + 1 })
    else if c.qOff ≤ q then v
    else ⟨.unvoiced, 0, v.hold⟩
  | .voiced =>
    if loud && c.qOff ≤ q then v
    else if 1 ≤ c.hold then ⟨.release, v.onset, c.hold⟩
    else { v with state := byLevel loud }
  | .release =>
    if loud && c.qOn ≤ q then ⟨.voiced, v.onset, 0⟩
    else if v.hold - 1 = 0 then ⟨byLevel loud, v.onset, 0⟩
    else { v with hold := v.hold - 1 }

/-- The accepted pitch: held pitch, jump-pending record and last accepted period (R15, R16). -/
structure Held where
  held : Option Int
  pending : Option Int
  last : Option Nat
  deriving DecidableEq, Repr

/-- A frame's pitch is accepted (R16). -/
def Held.accept (h : Held) (p : Int) (t16 : Nat) : Held := { h with held := some p, last := some t16 }

/-- The octave-jump guard on a frame that finds and leaves the tracker VOICED (R15). -/
def Held.guard (h : Held) (p : Int) (t16 : Nat) : Held :=
  if (match h.pending with | some x => decide ((p - x).natAbs ≤ 100) | none => false) then
    { h.accept p t16 with pending := none }
  else if (match h.held with | some x => decide (700 < (p - x).natAbs) | none => false) then
    { h with pending := some p }
  else { h.accept p t16 with pending := none }

/-- The accepted pitch after a frame completion that goes from one voicing state to another (R15, R16). -/
def Held.frame (h : Held) (before after : Voicing) (p : Int) (t16 : Nat) : Held :=
  match before, after with
  | .voiced, .voiced => h.guard p t16
  | _, .onset => h.accept p t16
  | _, .voiced => h.accept p t16
  | .voiced, .silent => { h with held := none, pending := none }
  | _, .silent => { h with held := none }
  | .voiced, _ => { h with pending := none }
  | _, _ => h

/-- The silence count after a frame completion (R17). -/
def silenceAfter (after : Voicing) (count : Nat) : Nat :=
  if after = .silent then (if count < 255 then count + 1 else 255) else 0

/-- The phrase event of a frame completion (R18, R19), from the silence count after it. -/
def phraseEventOf (c : TrackerSettings) (between : Bool) (before after : Voicing) (silence : Nat) : PhraseEvent :=
  if after = .silent ∧ between = false ∧ c.phraseGap ≤ silence then .phraseEnd
  else if after = .onset ∧ (before = .silent ∨ before = .unvoiced) ∧ between = true then .phraseStart
  else .none

/-- "Between phrases" after a phrase event (R18, R19). -/
def betweenAfter (between : Bool) : PhraseEvent → Bool
  | .none => between
  | .phraseStart => false
  | .phraseEnd => true

/-- The tracker's work at a frame completion from that frame's measures, in the order of R1: transition, accepted pitch,
silence and phrase, frame record. A PHRASE START joins those that await the Cue Queue, so that none is lost (R144, log 8). -/
def Tracker.takeFrame (t : Tracker) (m : Measures) : Tracker :=
  let v := transition t.settings ⟨t.state, t.onsetCount, t.holdCount⟩ (t.settings.gate ≤ m.level) m.q
  let h := Held.frame ⟨t.held, t.jumpPending, t.lastAccepted⟩ t.state v.state (pitchOf m.t16 t.fRef) m.t16
  let silence := silenceAfter v.state t.silenceCount
  let event := phraseEventOf t.settings t.betweenPhrases t.state v.state silence
  { t with
    state := v.state
    onsetCount := v.onset
    holdCount := v.hold
    silenceCount := silence
    betweenPhrases := betweenAfter t.betweenPhrases event
    held := h.held
    jumpPending := h.pending
    lastAccepted := h.last
    record := { state := v.state, level := m.level, q := m.q, t16 := m.t16, held := h.held, lastAccepted := h.last, event := event }
    phraseStartsAwaiting := t.phraseStartsAwaiting + if event = .phraseStart then 1 else 0 }

/-- The tracker's frame completion: the measures of its window under its settings, then its work (R1). -/
def Tracker.completeFrame (t : Tracker) : Tracker := t.takeFrame (measure t.window t.settings.tLo t.settings.tHi)

/-- The seven settings after clamping (R6), from the values a SET TRACKER carries. -/
def clampSettings (low high : Nat) (gate : Int) (qOn qOff hold gap : Nat) : TrackerSettings :=
  let low1 := clampNat 70 1400 low
  let high1 := clampNat 70 1400 high
  let high2 := if high1 < 2 * low1 then 2 * low1 else high1
  let high3 := if 1400 < high2 then 1400 else high2
  let low2 := if high3 < 2 * low1 then 700 else low1
  let on := clampNat 30 95 qOn
  { lowHz := low2, highHz := high3, gate := clampInt (-72) (-24) gate, qOn := on, qOff := clampNat 20 on qOff,
    hold := clampNat 0 60 hold, phraseGap := clampNat 8 250 gap }

/-- The nine bytes of the tracker settings (9.5, 11h). -/
def TrackerSettings.bytes (c : TrackerSettings) : List Byte :=
  twoBytesNat c.lowHz ++ twoBytesNat c.highHz ++
    [byteOfInt c.gate, byteOfNat c.qOn, byteOfNat c.qOff, byteOfNat c.hold, byteOfNat c.phraseGap]

end Sys2Proof.Machine
end

