-- ==== Sys2Proof/Machine/Planner.lean ====
section
/-! DEFINITION. The Voice Planner: lead note, snap, voice modes, fold, collisions, shift, ratio and envelope command
(chapter 3). -/

namespace Sys2Proof.Machine

/-! ### Lead note and snap (3.2, 3.3) -/

/-- The lead note from the lead pitch, the previous lead note and the hysteresis (R49). -/
def leadNote (prev : Option Int) (p : Int) (hyst : Nat) : Int :=
  match prev with
  | some n => if (p - 100 * n).natAbs ≤ 50 + hyst then n else (p + 50) / 100
  | none => (p + 50) / 100

/-- A note belongs to the key: its class counted from the tonic is a member of the scale set (3.3). -/
def inKey (tonic : Nat) (set : PitchSet) (m : Int) : Bool := set.getLsbD ((m - tonic) % 12).toNat

/-- The notes in order of nearness to `n`, the lower of two at one distance first (R51). -/
def nearNotes (n : Int) : List Int :=
  n :: (List.range 6).flatMap fun (d : Nat) => [n - ((d : Int) + 1), n + ((d : Int) + 1)]

/-- The snapped note (R51). Every scale set holds class 0, so a member lies within six semitones (log 17). -/
def snap (tonic : Nat) (set : PitchSet) (n : Int) : Int := ((nearNotes n).find? (inKey tonic set)).getD n

/-! ### Voice modes (3.4) -/

/-- The next whole number strictly above (`up`) or below `n` whose class passes the test. Every set walked holds a class, so
one lies within twelve (log 17). -/
def nextNote (mem : Int → Bool) (up : Bool) (n : Int) : Int :=
  let step : Int := if up then 1 else -1
  (((List.range 12).map fun (d : Nat) => n + step * ((d : Int) + 1)).find? mem).getD (n + step * 12)

/-- `count` such steps (R52, R53). -/
def walk (mem : Int → Bool) (up : Bool) : Nat → Int → Int
  | 0, n => n
  | count + 1, n => walk mem up count (nextNote mem up n)

/-- What every voice shares at a frame completion: the lead note, the snapped note, and the planning view (R45). -/
structure Lead where
  note : Int
  snapped : Int
  view : PlanningView
  deriving DecidableEq, Repr

/-- A SCALE voice's note (R52). -/
def scaleNote (l : Lead) (d : Int) : Int :=
  walk (inKey l.view.tonic l.view.scaleSet) (0 < d) d.natAbs l.snapped + (l.note - l.snapped)

/-- A CHORD voice's note (R53), or the fallback without chord tones (R54). -/
def chordNote (l : Lead) (r : Int) : Int :=
  match l.view.chordTones with
  | some tones =>
    if r = 0 then l.note else walk (inKey 0 tones) (0 < r) r.natAbs l.snapped + (l.note - l.snapped)
  | none => scaleNote l (2 * r)

/-- A voice's note before the fold (R52 to R55); none when the mode is OFF (R47). -/
def modeNote (l : Lead) (v : VoiceRule) : Option Int :=
  match v.mode with
  | .off => none
  | .scale => some (scaleNote l v.amount)
  | .chord => some (chordNote l v.amount)
  | .semitone => some (l.note + v.amount)
  | .drone => some v.amount

/-! ### Range and collisions (3.5, 3.6) -/

/-- The fold: 12 is subtracted while above the range, and added while below it (R58). -/
def fold (low high : Nat) (h : Int) : Int :=
  let h1 := if (high : Int) < h then h - 12 * ((h - high + 11) / 12) else h
  if h1 < low then h1 + 12 * ((low - h1 + 11) / 12) else h1

/-- A movable voice: a non-zero amount in SCALE, CHORD or SEMITONE (R56). -/
def VoiceRule.movable (v : VoiceRule) : Bool :=
  (v.mode = .scale || v.mode = .chord || v.mode = .semitone) && v.amount ≠ 0

/-- A collision move (R60). -/
def collisionMove (l : Lead) (v : VoiceRule) (h : Int) : Int :=
  fold v.low v.high (nextNote (inKey l.view.tonic l.view.scaleSet) (0 < v.amount) h)

/-- A voice's place after collision resolution: its planned note, or doubled out (R59 to R61). -/
structure Placed where
  note : Option Int
  doubledOut : Bool
  deriving DecidableEq, Repr

/-- Resolve one voice's folded note against the notes of the earlier voices (R59, R60, R61). -/
def resolve (l : Lead) (v : VoiceRule) (earlierNotes : List Int) (h : Int) : Placed :=
  if h ∉ earlierNotes then ⟨some h, false⟩
  else if !v.movable then ⟨some h, false⟩
  else
    let h1 := collisionMove l v h
    if h1 ∉ earlierNotes then ⟨some h1, false⟩
    else
      let h2 := collisionMove l v h1
      if h2 ∉ earlierNotes then ⟨some h2, false⟩ else ⟨none, true⟩

/-- Place one voice after the voices before it (R47, R58, R59, R62): `speaks` says that the voice plans in this tracker
state (not a MUTE voice in UNVOICED). -/
def place (l : Lead) (avoid speaks : Bool) (v : VoiceRule) (earlierNotes : List Int) : Placed :=
  match if speaks then modeNote l v else none with
  | none => ⟨none, false⟩
  | some h0 =>
    let h := fold v.low v.high h0
    if avoid then resolve l v earlierNotes h else ⟨some h, false⟩

/-- Place the four voices in the order 0, 1, 2, 3 (R59). -/
def placeAll (l : Lead) (avoid : Bool) (speaks : VoiceRule → Bool) (vs : Four VoiceRule) : Four Placed :=
  let p0 := place l avoid (speaks vs.v0) vs.v0 []
  let n0 := p0.note.toList
  let p1 := place l avoid (speaks vs.v1) vs.v1 n0
  let n1 := n0 ++ p1.note.toList
  let p2 := place l avoid (speaks vs.v2) vs.v2 n1
  let n2 := n1 ++ p2.note.toList
  ⟨p0, p1, p2, place l avoid (speaks vs.v3) vs.v3 n2⟩

/-! ### Shift and ratio (3.7) -/

/-- The fine part (R64): `D - trunc (e C / 100)`. -/
def finePart (detune e : Int) (correction : Nat) : Int := detune - (e * correction).tdiv 100

/-- The glided note part (R65). -/
def glidePart (closed : Bool) (glide : Nat) (target na : Int) : Int :=
  if closed then target
  else if glide = 0 then target
  else if (target - na).natAbs ≤ glide then target
  else if na < target then na + glide
  else na - glide

/-- The envelope command of a voice when the planner runs (R69, R70). -/
def commandFor (mode : EngineMode) (state : Voicing) (onset : OnsetMode) (planned : Bool) : EnvCommand :=
  if mode = .bypass || !planned then .close
  else match state, onset with
    | .voiced, _ => .open
    | .onset, .atOnset => .open
    | .onset, .atVoiced => .keep
    | .release, _ => .keep
    | .unvoiced, _ => .open
    | .silent, _ => .close

/-- One voice after the planner has run (R61 to R69): `env` is its envelope state before this frame's command. -/
def planVoice (sc : Scene) (mode : EngineMode) (state : Voicing) (n e : Int) (v : VoiceRule) (env : EnvState)
    (pl : Placed) (old : PlanVoice) : PlanVoice :=
  match pl.note with
  | none => { old with planned := none, outOfReach := false, doubledOut := pl.doubledOut, command := .close }
  | some h =>
    let na := glidePart (env = .closed) sc.glide (100 * (h - n)) old.notePart
    let sum := na + finePart v.detune e sc.correction
    let shift := clampInt (-2400) 2400 sum
    { planned := some h, notePart := na, shift := shift, ratio := ratioOf shift, outOfReach := shift ≠ sum,
      doubledOut := false, command := commandFor mode state sc.onsetMode true }

/-- The planner does not run: no planned notes, marks clear, CLOSE, the rest kept (R46). -/
def PlanVoice.rest (v : PlanVoice) : PlanVoice :=
  { v with planned := none, outOfReach := false, doubledOut := false, command := .close }

/-- The lead pitch the planner works from where it runs (R46). A held pitch is always present in ONSET, VOICED and RELEASE
(R16). -/
def planPitch (rec : FrameRecord) (sc : Scene) : Option Int :=
  match rec.state with
  | .onset | .voiced | .release => rec.held
  | .unvoiced => if sc.voices.toList.any (fun v => v.policy = .hold) then rec.held else none
  | .silent => none

/-- The Voice Planner's work at a frame completion (R45 to R70). -/
def Planner.completeFrame (p : Planner) (rec : FrameRecord) (view : PlanningView) (sc : Scene) (mode : EngineMode)
    (envs : Four EnvState) : Planner :=
  match planPitch rec sc with
  | none =>
    { prevLead := if rec.state = .silent then none else p.prevLead, voices := p.voices.map PlanVoice.rest }
  | some pitch =>
    let n := leadNote p.prevLead pitch sc.hysteresis
    let l : Lead := ⟨n, snap view.tonic view.scaleSet n, view⟩
    let speaks := fun (v : VoiceRule) => !(rec.state = .unvoiced && v.policy = .mute)
    let placed := placeAll l sc.collisionAvoid speaks sc.voices
    let e := pitch - 100 * n
    { prevLead := some n
      voices :=
        ⟨planVoice sc mode rec.state n e sc.voices.v0 envs.v0 placed.v0 p.voices.v0,
          planVoice sc mode rec.state n e sc.voices.v1 envs.v1 placed.v1 p.voices.v1,
          planVoice sc mode rec.state n e sc.voices.v2 envs.v2 placed.v2 p.voices.v2,
          planVoice sc mode rec.state n e sc.voices.v3 envs.v3 placed.v3 p.voices.v3⟩ }

/-- A clamp acted at this frame completion (R67). -/
def Planner.anyOutOfReach (p : Planner) : Bool := p.voices.toList.any (·.outOfReach)

end Sys2Proof.Machine
end

