-- ==== Sys2Proof/Machine/Shift.lean ====
section
/-! DEFINITION. The Shift Engine: read heads, lag guards and splices, crossfades, envelopes, the voice signal (chapter 4). -/

namespace Sys2Proof.Machine

/-- The splice period Tp (R83). -/
def splicePeriod (lastAccepted : Option Nat) : Nat :=
  match lastAccepted with
  | some t16 => (t16 + 8) / 16
  | none => 240

/-- Advance a head by the ratio in use, its lag carried forward over the ring write (R80, R81). -/
def Head.advance (h : Head) (ratio : Nat) : Head :=
  { whole := (h.whole + (h.frac + ratio) / 8192) % 4096
    frac := (h.frac + ratio) % 8192
    lag := h.lag + 1 - ((h.frac + ratio) / 8192 : Nat) }

/-- A head moved by whole samples: `back` behind where it stands, its fraction kept (R84, R85). -/
def Head.jump (h : Head) (back : Int) : Head :=
  { h with whole := (((h.whole : Int) - back) % 4096).toNat, lag := h.lag + back }

/-- The jump of the active head past a guard: backward below 96 by `k * Tp` with `k = ceil ((480 - lag) / Tp)`, forward above
1536 by `k * Tp` with `k = floor ((lag - 480) / Tp)` (R84, R85). -/
def spliceJump (tp : Nat) (lag : Int) : Option Int :=
  if lag < 96 then some (-((lag - 480) / tp) * tp)
  else if 1536 < lag then some (-((lag - 480) / tp) * tp)
  else none

/-- A head's sample by linear interpolation, without rounding (R82). -/
def headSample (ring : List (Nat × Sample)) (h : Head) : Rat :=
  let x0 := (ringRead ring h.whole).toInt
  let x1 := (ringRead ring ((h.whole + 1) % 4096)).toInt
  (x0 : Rat) + (h.frac : Rat) / 8192 * ((x1 : Rat) - x0)

/-- The head placed by an opening channel: lag 480, fraction 0 (R93). -/
def placedHead (w : Nat) : Head := { whole := (w + 4096 - 480) % 4096, frac := 0, lag := 480 }

/-- A channel acts on its command at the first sample event after a frame completion (R92, R93). -/
def Channel.act (c : Channel) (w : Nat) : Channel :=
  match c.env, c.command with
  | .closed, .open => { c with env := .opening, active := some (placedHead w), fade := none }
  | .closing, .open => { c with env := .opening }
  | .opening, .close => { c with env := .closing }
  | .open, .close => { c with env := .closing }
  | _, _ => c

/-- A channel's heads after steps 1 to 4 of R79, with whether a crossfade was cut (R89). -/
structure Heads where
  active : Head
  fade : Option Crossfade
  cut : Bool
  deriving DecidableEq, Repr

/-- Step 2 of R79: a fading head whose lag has left 1..4095 is dropped (R88). -/
def dropFade (fade : Option Crossfade) : Option Crossfade × Bool :=
  match fade with
  | some f => if f.fading.lag < 1 ∨ 4095 < f.fading.lag then (none, true) else (some f, false)
  | none => (none, false)

/-- Step 4 of R79: a crossfade that continues from an earlier sample event advances, and ends at its length (R87). -/
def Crossfade.next (f : Crossfade) : Option Crossfade :=
  if f.length ≤ f.progress + 1 then none else some { f with progress := f.progress + 1 }

/-- Steps 1 to 4 of R79 for a channel whose head was not placed at this event. -/
def moveHeads (ratio tp xfade : Nat) (active : Head) (fade : Option Crossfade) : Heads :=
  let a := active.advance ratio
  let d := dropFade (fade.map fun f => { f with fading := f.fading.advance ratio })
  match spliceJump tp a.lag with
  | some back => ⟨a.jump back, some ⟨a, 0, xfade⟩, d.2 || d.1.isSome⟩
  | none => ⟨a, d.1.bind Crossfade.next, d.2⟩

/-- Step 5 of R79: the envelope level steps; reaching 0 in CLOSING closes the channel (R94, R95). -/
def Channel.stepLevel (c : Channel) (attack release : Nat) : Channel :=
  match c.env with
  | .opening =>
    let l := c.level + 1 / (256 * (attack : Rat))
    if 1 ≤ l then { c with env := .open, level := 1 } else { c with level := l }
  | .closing =>
    let l := c.level - 1 / (256 * (release : Rat))
    if l ≤ 0 then { c with env := .closed, level := 0, active := none, fade := none } else { c with level := l }
  | _ => c

/-- Step 6 of R79: the voice signal, rounded to a whole number (R87, R96). -/
def Channel.signal (c : Channel) (ring : List (Nat × Sample)) : Int :=
  match c.env, c.active with
  | .closed, _ => 0
  | _, none => 0
  | _, some a =>
    let x :=
      match c.fade with
      | none => headSample ring a
      | some f =>
        headSample ring f.fading * (((f.length : Rat) - f.progress) / f.length) +
          headSample ring a * ((f.progress : Rat) / f.length)
    roundRat (x * c.level)

/-- What a channel leaves behind at a sample event: itself, whether a crossfade was cut, its signal. -/
structure ChannelStep where
  channel : Channel
  cut : Bool
  signal : Int
  deriving DecidableEq, Repr

/-- A channel that is not CLOSED after acting: steps 1 to 6 of R79, or steps 5 and 6 for a head placed at this event. -/
def Channel.run (c : Channel) (placed : Bool) (ring : List (Nat × Sample)) (tp xfade attack release : Nat) : ChannelStep :=
  match c.active with
  | none => ⟨c, false, 0⟩
  | some a =>
    let h : Heads := if placed then ⟨a, c.fade, false⟩ else moveHeads c.ratio tp xfade a c.fade
    let c1 := { c with active := some h.active, fade := h.fade }.stepLevel attack release
    ⟨c1, h.cut, c1.signal ring⟩

/-- A channel's work at a sample event, after the ring write (R79, R92); `first` says that it is the first after a frame
completion. A CLOSED channel does nothing and its signal is 0. -/
def Channel.sample (c : Channel) (first : Bool) (ring : List (Nat × Sample)) (w tp xfade attack release : Nat) :
    ChannelStep :=
  let c1 := if first then c.act w else c
  if c1.env = .closed then ⟨c1, false, 0⟩
  else c1.run (c.env = .closed) ring tp xfade attack release

/-- The engine after a sample event, with whether any crossfade was cut and the four voice signals. -/
structure EngineStep where
  engine : Engine
  cut : Bool
  signals : Four Int
  deriving DecidableEq, Repr

/-- A sample event in the engine: ring write (R75), then the four channels (R79). -/
def Engine.sample (g : Engine) (x : Sample) (first : Bool) (lastAccepted : Option Nat) : EngineStep :=
  let w := (g.w + 1) % 4096
  let ring := ringWrite g.ring w x
  let steps := g.channels.map fun c =>
    c.sample first ring w (splicePeriod lastAccepted) g.crossfade g.attack g.release
  { engine := { g with ring := ring, w := w, channels := steps.map (·.channel) }
    cut := steps.toList.any (·.cut)
    signals := steps.map (·.signal) }

/-- At a frame completion the channels take the planner's ratio and command, and the engine the scene's X, attack and release
(R71, R78). -/
def Engine.takeUp (g : Engine) (p : Planner) (sc : Scene) : Engine :=
  { g with
    channels := g.channels.map2 (fun c v => { c with ratio := v.ratio, command := v.command }) p.voices
    crossfade := sc.crossfade, attack := sc.attack, release := sc.release }

end Sys2Proof.Machine
end

