-- ==== Sys2Proof/Machine/Audio.lean ====
section
/-! DEFINITION. The commands of the audio side: sample events, frame completions, and the audio clock
(chapters 1 to 5). -/

namespace Sys2Proof.Machine

/-! ### Sample event and frame completion -/

/-- The part of a sample event that comes before any frame completion: ring and window take the sample, the channels run, the
mixer forms the outputs (R1, R75, R79, R102, R110). -/
def State.takeSample (s : State) (x : Sample) : State :=
  let e := s.engine.sample x (s.tracker.framePos = 0) s.tracker.record.lastAccepted
  let m := s.mixer.sample x.toInt e.signals
  (({ s with
      tracker := s.tracker.takeSample x
      engine := e.engine
      mixer := m.mixer
      port := { s.port with formed := some m.out } }).raiseIf e.cut .shortCrossfade).raiseIf m.clip .clip

/-- The Working Scene acts on its follow record at a frame completion (R132). -/
def Working.takeFollow (w : Working) : Working :=
  match w.follow with
  | some f => { scene := f.scene, origin := { w.origin with edited := false }, follow := none }
  | none => w

/-- A frame completion: tracker with its phrase notices, live follow, planning view, planner, hand-off and take-up, clip mark
(R1, R18, R19, R39, R45, R67, R71, R78, R107, R111, R132). -/
def State.completeFrame (s : State) : State :=
  let t := s.tracker.completeFrame
  let w := s.working.takeFollow
  let p := s.planner.completeFrame t.record (s.key.view w.scene) w.scene s.mixer.mode (s.engine.channels.map (·.env))
  ((({ s with
      tracker := t
      working := w
      planner := p
      engine := s.engine.takeUp p w.scene
      mixer := s.mixer.takeUp w.scene }).raiseIf (t.record.event = PhraseEvent.phraseStart) .phraseStart).raiseIf
    (t.record.event = PhraseEvent.phraseEnd) .phraseEnd).raiseIf p.anyOutOfReach .outOfReach

/-- A whole sample event; it is a frame completion when it brings the frame position from 255 back to 0 (R1). -/
def State.sampleEvent (s : State) (x : Sample) : State :=
  if s.tracker.framePos = 255 then (s.takeSample x).completeFrame else s.takeSample x

/-- SAMPLE_EVENT (R102): taken while the engine is RUNNING; while it is STALLED the input slot is discarded. -/
def execSampleEvent (x : Sample) (s : State) : Host.Outcome State Fault Refusal :=
  .next (if s.engine.state = .running then s.sampleEvent x else s)

/-- FRAME_COMPLETION (R1): the sample event that wraps the frame position. Where the frame position is not 255 no sample event
is one (logs 1 and 5). -/
def execFrameCompletion (x : Sample) (s : State) : Host.Outcome State Fault Refusal :=
  .next (if s.engine.state = .running ∧ s.tracker.framePos = 255 then (s.takeSample x).completeFrame else s)

/-! ### The audio clock -/

/-- FRAME_CLOCK_EDGE: the edge is counted and restarts the gap check, and a port frame begins, sending the samples formed at
the sample event of the frame before it, or zeros (R103, R105). No window runs while RESETn is held low (R106). -/
def execFrameClockEdge (s : State) : Host.Outcome State Fault Refusal :=
  .next (if s.start.phase = .pinHeld then s else
    { s with port := { s.port with
        windowCount := s.port.windowCount + 1, gapOpen := false, sending := s.port.formed.getD zeroOut, formed := none } })

/-- CLOCK_GAP_TIMEOUT: a PRESENT clock is declared absent (R104), an ABSENT one loses its qualifying count (R105); data out is
held at zero (R103). -/
def execClockGapTimeout (s : State) : Host.Outcome State Fault Refusal :=
  .next (if s.start.phase = .pinHeld then s else
    let s1 := { s with port := { s.port with windowGap := true, gapOpen := true, qualifying := 0, sending := zeroOut } }
    if s.port.clock = .present then s1.declareAbsent else s1)

/-- A count in range: 470..490 (5.2). -/
def countInRange (n : Nat) : Bool := 470 ≤ n && n ≤ 490

/-- The window that ends leaves its count, and a new one starts; a gap still open runs on into it (R105, R106, log 13). -/
def Port.nextWindow (p : Port) : Port :=
  { p with lastWindowCount := p.windowCount, windowCount := 0, windowGap := p.gapOpen }

/-- The clock is declared present (R105): tracker, planner and mixer take the values of a return (R22, R74, R114), and an engine
STALLED with cause CLOCK restarts, unless the self-check runs. An engine in RAM FAULT keeps its values (R99). -/
def State.declarePresent (s : State) : State :=
  let s1 := { s with port := { s.port with clock := .present, qualifying := 0 } }
  if s.engine.state = .stalled .clock ∧ s.start.phase = .up then s1.clockReturn else s1.audioReturn

/-- MEASUREMENT_WINDOW_END (R104, R105, R106). -/
def execMeasurementWindowEnd (s : State) : Host.Outcome State Fault Refusal :=
  .next (if s.start.phase = .pinHeld then s else
    let s1 := { s with port := s.port.nextWindow }
    if s.port.clock = .present then
      (if countInRange s.port.windowCount then s1 else s1.declareAbsent)
    else if !countInRange s.port.windowCount then { s1 with port := { s1.port with qualifying := 0 } }
    else if s.port.windowGap then s1
    else if s.port.qualifying + 1 < 2 then { s1 with port := { s1.port with qualifying := s.port.qualifying + 1 } }
    else s1.declarePresent)

end Sys2Proof.Machine
end

