-- ==== Sys2Proof/Machine/Operands.lean ====
section
/-! DEFINITION. The payloads of the requests (9.5): their lengths and fields, the checking of an arriving scene record (R117,
R174), and the live edit of one field (R124, R125). -/

namespace Sys2Proof.Machine

/-! ### Payloads by length (R170 step 3) -/

def noPayload : List Byte → Option Unit
  | [] => some ()
  | _ => none

def onePayload : List Byte → Option Byte
  | [a] => some a
  | _ => none

def twoPayload : List Byte → Option (Byte × Byte)
  | [a, b] => some (a, b)
  | _ => none

def threePayload : List Byte → Option (Byte × Byte × Byte)
  | [a, b, c] => some (a, b, c)
  | _ => none

def fourPayload : List Byte → Option (Byte × Byte × Byte × Byte)
  | [a, b, c, d] => some (a, b, c, d)
  | _ => none

/-- A payload of exactly `n` bytes. -/
def lengthPayload (n : Nat) (p : List Byte) : Option (List Byte) := if p.length = n then some p else none

/-- The byte at an offset of a payload (within its length). -/
def byteAt (p : List Byte) (i : Nat) : Byte := p.getD i 0

/-- An unsigned byte field. -/
def natAt (p : List Byte) (i : Nat) : Nat := (byteAt p i).toNat

/-- A signed byte field. -/
def intAt (p : List Byte) (i : Nat) : Int := (byteAt p i).toInt

/-- An unsigned two-byte field, most significant byte first (R166). -/
def nat16At (p : List Byte) (i : Nat) : Nat := (word16 (byteAt p i) (byteAt p (i + 1))).toNat

/-! ### Checking a scene record (6.2) -/

/-- The range of a voice's amount by its mode (R116). -/
def amountRange : VoiceMode → Int × Int
  | .off => (-128, 127)
  | .scale => (-14, 14)
  | .chord => (-4, 4)
  | .semitone => (-24, 24)
  | .drone => (24, 108)

/-- An amount clamped into its mode's range (R117 step 3). -/
def clampAmount (m : VoiceMode) (a : Int) : Int := clampInt (amountRange m).1 (amountRange m).2 a

/-- The repair of a voice's range (R57). -/
def repairRange (low high : Int) : Nat × Nat :=
  let l1 := clampInt 24 108 low
  let u1 := clampInt 24 108 high
  let u2 := if u1 < l1 + 12 then min (l1 + 12) 108 else u1
  let l2 := if u2 < l1 + 12 then u2 - 12 else l1
  (l2.toNat, u2.toNat)

/-- A character of the name (R117 step 5). -/
def nameByte (b : Byte) : Byte := if 0x20 ≤ b.toNat ∧ b.toNat ≤ 0x7E then b else 0x3F

/-- A voice block from its eight bytes at an offset, checked and clamped (R117, R174). -/
def parseVoice (p : List Byte) (at_ : Nat) : Option VoiceRule :=
  match VoiceMode.ofByte (byteAt p at_), UnvoicedPolicy.ofByte (byteAt p (at_ + 7)) with
  | some m, some pol =>
    let r := repairRange (natAt p (at_ + 2)) (natAt p (at_ + 3))
    some { mode := m, amount := clampAmount m (intAt p (at_ + 1)), low := r.1, high := r.2,
           detune := clampInt (-50) 50 (intAt p (at_ + 4)), gain := clampInt (-120) 12 (intAt p (at_ + 5)),
           pan := clampInt (-50) 50 (intAt p (at_ + 6)), policy := pol }
  | _, _ => none

/-- The four voice blocks, at offsets 26, 34, 42 and 50 (9.7). -/
def parseVoices (p : List Byte) : Option (Four VoiceRule) :=
  match parseVoice p 26, parseVoice p 34, parseVoice p 42, parseVoice p 50 with
  | some a, some b, some c, some d => some ⟨a, b, c, d⟩
  | _, _, _, _ => none

/-- A scene record from its 58 bytes: none where step 1 of R117 refuses it, and otherwise the record steps 2 to 5 leave. -/
def parseScene (p : List Byte) : Option Scene :=
  match KeySource.ofByte (byteAt p 14), parseVoices p with
  | some ks, some vs =>
    if 4 ≤ natAt p 21 then none
    else some {
      name := (p.take 12).map nameByte
      tonic := clampNat 0 11 (natAt p 12)
      scaleIndex := clampNat 0 15 (natAt p 13)
      keySource := ks
      correction := clampNat 0 100 (natAt p 15)
      hysteresis := clampNat 0 40 (natAt p 16)
      glide := clampNat 0 1200 (nat16At p 17)
      crossfade := clampNat 32 512 (nat16At p 19)
      collisionAvoid := (byteAt p 21).getLsbD 0
      onsetMode := if (byteAt p 21).getLsbD 1 then .atOnset else .atVoiced
      dryGain := clampInt (-120) 12 (intAt p 22)
      dryPan := clampInt (-50) 50 (intAt p 23)
      attack := clampNat 1 32 (natAt p 24)
      release := clampNat 1 64 (natAt p 25)
      voices := vs }
  | _, _ => none

/-- The clamp mark of a record that was taken: steps 2 to 5 of R117 changed one of its values. -/
def clampMark (p : List Byte) (sc : Scene) : Bool := sc.bytes ≠ p

/-! ### The live edit (6.6) -/

/-- What an edit leaves: the record, the stored value, a second stored value, and whether a clamp acted. -/
structure Edited where
  scene : Scene
  stored : Int
  second : Option Int
  clamped : Bool
  deriving DecidableEq, Repr

/-- The edit of a numeric field: the value is clamped and stored (R124). -/
def editNumber (lo hi v : Int) (store : Int → Scene) : Option Edited :=
  let x := clampInt lo hi v
  some ⟨store x, x, none, x ≠ v⟩

/-- The edit of a two-valued field: 0 or 1, any other value refused (R124, R174). -/
def editFlag (v : Int) (store : Bool → Scene) : Option Edited :=
  if v = 0 then some ⟨store false, 0, none, false⟩
  else if v = 1 then some ⟨store true, 1, none, false⟩
  else none

/-- The edit of a scene-wide field by its identifier 01h..0Dh (9.7, R124). -/
def editSceneField (sc : Scene) (id : Nat) (v : Int) : Option Edited :=
  match id with
  | 0x01 => editNumber 0 11 v fun x => { sc with tonic := x.toNat }
  | 0x02 => editNumber 0 15 v fun x => { sc with scaleIndex := x.toNat }
  | 0x03 => editFlag v fun b => { sc with keySource := if b then .chord else .scene }
  | 0x04 => editNumber 0 100 v fun x => { sc with correction := x.toNat }
  | 0x05 => editNumber 0 40 v fun x => { sc with hysteresis := x.toNat }
  | 0x06 => editNumber 0 1200 v fun x => { sc with glide := x.toNat }
  | 0x07 => editNumber 32 512 v fun x => { sc with crossfade := x.toNat }
  | 0x08 => editFlag v fun b => { sc with collisionAvoid := b }
  | 0x09 => editFlag v fun b => { sc with onsetMode := if b then .atOnset else .atVoiced }
  | 0x0A => editNumber (-120) 12 v fun x => { sc with dryGain := x }
  | 0x0B => editNumber (-50) 50 v fun x => { sc with dryPan := x }
  | 0x0C => editNumber 1 32 v fun x => { sc with attack := x.toNat }
  | 0x0D => editNumber 1 64 v fun x => { sc with release := x.toNat }
  | _ => none

/-- A voice edit's outcome: the voice block, the stored value, a second stored value, and whether a clamp acted. -/
structure EditedVoice where
  rule : VoiceRule
  stored : Int
  second : Option Int
  clamped : Bool
  deriving DecidableEq, Repr

/-- The edit of a voice's field by its identifier 10h..17h (R124, R125, 9.7). The clamp mark tells a change of the named value
or of the second one (log 11). -/
def editVoiceField (r : VoiceRule) (id : Nat) (v : Int) : Option EditedVoice :=
  match id with
  | 0x10 =>
    if v < 0 ∨ 255 < v then none
    else (VoiceMode.ofByte (BitVec.ofInt 8 v)).map fun m =>
      let a := clampAmount m r.amount
      ⟨{ r with mode := m, amount := a }, v, some a, a ≠ r.amount⟩
  | 0x11 =>
    let x := clampAmount r.mode v
    some ⟨{ r with amount := x }, x, none, x ≠ v⟩
  | 0x12 =>
    let p := repairRange v r.high
    some ⟨{ r with low := p.1, high := p.2 }, p.1, some p.2, p.1 ≠ v ∨ p.2 ≠ r.high⟩
  | 0x13 =>
    let p := repairRange r.low v
    some ⟨{ r with low := p.1, high := p.2 }, p.2, some p.1, p.2 ≠ v ∨ p.1 ≠ r.low⟩
  | 0x14 =>
    let x := clampInt (-50) 50 v
    some ⟨{ r with detune := x }, x, none, x ≠ v⟩
  | 0x15 =>
    let x := clampInt (-120) 12 v
    some ⟨{ r with gain := x }, x, none, x ≠ v⟩
  | 0x16 =>
    let x := clampInt (-50) 50 v
    some ⟨{ r with pan := x }, x, none, x ≠ v⟩
  | 0x17 =>
    if v = 0 then some ⟨{ r with policy := .mute }, 0, none, false⟩
    else if v = 1 then some ⟨{ r with policy := .hold }, 1, none, false⟩
    else none
  | _ => none

/-- EDIT WORKING SCENE on a record: none is BAD_FIELD (R124). The voice number is read for the voice fields alone. -/
def editScene (sc : Scene) (id voice : Nat) (v : Int) : Option Edited :=
  if 0x10 ≤ id then
    (if 3 < voice then none
     else (editVoiceField (sc.voices.get voice) id v).map fun e =>
       ⟨{ sc with voices := sc.voices.set voice e.rule }, e.stored, e.second, e.clamped⟩)
  else editSceneField sc id v

end Sys2Proof.Machine
end

