-- ==== Sys2Proof/Machine/LinkEvents.lean ====
section
/-! DEFINITION. The Link Interface: the receive assembler, receive faults, dispatch of fault entries and unknown kinds, the end
of a transmission, and RESET (chapter 9). -/

namespace Sys2Proof.Machine

/-! ### The receive assembler (R167, R168) -/

/-- What a received byte does to the assembler. -/
inductive ByteEffect where
  | state (a : Assembler)
  | frame (kind seq : Byte) (payload : List Byte)
  | fault (cause : ReceiveFault)
  deriving DecidableEq, Repr

/-- The effect of a byte in a state of the assembler (R167, R168). A byte in LENGTH that has both a stop-bit error and a value
outside 2..250 is a STOP fault: the manual names both causes and no order between them (log 27). -/
def byteEffect (a : Assembler) (b : Byte) (stopError : Bool) : ByteEffect :=
  match a with
  | .hunt => if !stopError && b = 0x7E then .state .length else .state .hunt
  | .length =>
    if stopError then .fault .stop
    else if 2 ≤ b.toNat ∧ b.toNat ≤ 250 then .state (.body b.toNat [])
    else .fault .length
  | .body n stored =>
    if stopError then .fault .stop
    else if stored.length + 1 < n then .state (.body n (stored ++ [b]))
    else match stored ++ [b] with
      | k :: q :: p => .frame k q p
      | _ => .state .hunt

/-- A byte's effect carried out: the assembler moves, or returns to HUNT and the frame or the fault entry is offered to the
request FIFO (R167, R168, R169). -/
def State.applyByte (s : State) : ByteEffect → State
  | .state a => { s with link := { s.link with assembler := a } }
  | .frame k q p => { s with link := { s.link with assembler := .hunt } }.offer (.frame k q p)
  | .fault c => { s with link := { s.link with assembler := .hunt } }.offer (.fault c)

/-- The effect of a byte on the state; a part held in reset receives nothing (R180). -/
def State.byteEffect (s : State) (b : Byte) (stopError : Bool) : ByteEffect :=
  if s.start.phase = .pinHeld then .state s.link.assembler
  else Sys2Proof.Machine.byteEffect s.link.assembler b stopError

/-- RECEIVED_BYTE: what R167 and R168 give the byte in the assembler's state (log 5). -/
def execReceivedByte (b : Byte) (stopError : Bool) (s : State) : Host.Outcome State Fault Refusal :=
  .next (s.applyByte (s.byteEffect b stopError))

/-- FRAME_RECEIVED: the byte that completes a frame (R167); a byte that completes none is not this event (log 1). -/
def execFrameReceived (b : Byte) (s : State) : Host.Outcome State Fault Refusal :=
  .next (match s.byteEffect b false with
    | .frame k q p => s.applyByte (.frame k q p)
    | _ => s)

/-- RECEIVE_FAULT: a byte that faults inside a frame (R168); a byte that does not fault is not this event (log 1). -/
def execReceiveFault (b : Byte) (stopError : Bool) (s : State) : Host.Outcome State Fault Refusal :=
  .next (match s.byteEffect b stopError with
    | .fault c => s.applyByte (.fault c)
    | _ => s)

/-- RECEIVE_GAP_TIMEOUT: the gap timer acts in LENGTH and BODY alone (R168). -/
def execReceiveGapTimeout (s : State) : Host.Outcome State Fault Refusal :=
  .next (if s.link.assembler = .hunt ∨ s.start.phase = .pinHeld then s else s.applyByte (.fault .gap))

/-! ### Dispatch that reaches no block (R170) -/

/-- The kinds of the catalogue (9.5). -/
def requestKinds : List Byte :=
  [0x01, 0x02, 0x03, 0x04, 0x10, 0x11, 0x12, 0x20, 0x21, 0x22, 0x23, 0x24, 0x25, 0x30, 0x31, 0x32, 0x33, 0x40, 0x41, 0x42,
    0x43, 0x44, 0x45, 0x46, 0x50, 0x51, 0x52, 0x53, 0x54, 0x58, 0x59, 0x5A, 0x5B, 0x60, 0x61, 0x62]

/-- The BAD_FRAME frame of a cause (R168). -/
def badFrameReply (cause : ReceiveFault) : ReplyFrame :=
  { kind := 0xFF, seq := 0x00, code := some ReplyCode.badFrame.byte, payload := [receiveFaultByte cause] }

/-- BAD_FRAME: dispatch of a fault entry (R170 step 1). -/
def execBadFrame (cause : ReceiveFault) (s : State) : Host.Outcome State Fault Refusal :=
  .next (match s.take (.fault cause) with
    | some s1 => s1.queueFrame (badFrameReply cause)
    | none => s)

/-- The UNKNOWN_KIND frame of a kind and a sequence (R170 step 2): at or above 80h kind FEh with the kind received as its
payload, and below it that kind + 80h without payload. -/
def unknownKindReply (kind seq : Byte) : ReplyFrame :=
  if 0x80 ≤ kind.toNat then
    { kind := 0xFE, seq := seq, code := some ReplyCode.unknownKind.byte, payload := [kind] }
  else { kind := kind + 0x80, seq := seq, code := some ReplyCode.unknownKind.byte, payload := [] }

/-- UNKNOWN_KIND: dispatch of a frame whose kind names no request (R170 step 2). -/
def execUnknownKind (kind seq : Byte) (payload : List Byte) (s : State) : Host.Outcome State Fault Refusal :=
  .next (if kind ∈ requestKinds then s
    else match s.take (.frame kind seq payload) with
      | some s1 => s1.queueFrame (unknownKindReply kind seq)
      | none => s)

/-! ### Transmission and RESET (R171, R172) -/

/-- TRANSMIT_COMPLETE: the front frame has been sent and leaves the reply queue (R171). -/
def execTransmitComplete (s : State) : Host.Outcome State Fault Refusal :=
  .next { s with link := { s.link with replies := s.link.replies.tail } }

/-- RESET's work: dispatch takes no further entry (R172). -/
def resetWork (_ : Unit) (s : State) : State × Reply :=
  ({ s with link := { s.link with stopped := true } }, .ok [])

/-- RESET, kind 03h. -/
def execReset (seq : Byte) (payload : List Byte) (s : State) : Host.Outcome State Fault Refusal :=
  .next (dispatch 0x03 seq payload noPayload resetWork s)

end Sys2Proof.Machine
end

