-- ==== Sys2Proof/Config.lean ====
section
/-! DEFINITION. What the manual leaves open and the part fixes for itself: the free values of the model. Each is a constant
with no body, so that nothing proved about the model can rest on a value chosen for it. -/

namespace Sys2Proof.Config

/-- FREE VALUE (log 6). The two bytes GET STATUS carries for a window count above 65535, which two bytes cannot hold: R106
and 9.5 give the field two bytes and state no value for such a count. -/
opaque wideWindowCount : Nat → BitVec 16

end Sys2Proof.Config
end

