-- ==== Sys2Proof/Machine/Requests.lean ====
section
/-! DEFINITION. The requests on status, setup, key and chord, and notices (chapters 1, 2, 5 and 10). -/

namespace Sys2Proof.Machine

/-! ### Status (R72, R100, R106) -/

/-- The two bytes of a window count; free above what two bytes hold (log 6). -/
def windowCountBytes (n : Nat) : List Byte := if n < 65536 then twoBytesNat n else twoBytes (Config.wideWindowCount n)

/-- GET STATUS's reply (R100, R106): engine state, stall cause, clock state, window count, engine mode, b. -/
def statusReport (_ : Unit) (s : State) : Reply :=
  .ok (s.engine.state.bytes ++ [s.port.clock.byte] ++ windowCountBytes s.port.lastWindowCount ++
    [s.mixer.mode.byte, byteOfNat s.mixer.ramp])

/-- A voice's seven bytes in MONITOR: envelope state, planned note, applied shift, active lag, marks (R72, R100). -/
def monitorVoice (c : Channel) (v : PlanVoice) : List Byte :=
  [c.env.byte, (v.planned.map byteOfInt).getD absentByte] ++ twoBytesInt v.shift ++
    (c.active.map fun h => twoBytesInt h.lag).getD absentTwo ++
    [markByte v.outOfReach ||| (markByte v.doubledOut <<< 1)]

/-- MONITOR's reply (R21, R43, R72, R100). The key is that of the scene in force, as in READ CONTEXT (log 25). -/
def monitorReport (_ : Unit) (s : State) : Reply :=
  let r := s.tracker.record
  .ok ([r.state.byte] ++ (r.held.map twoBytesInt).getD absentTwo ++ [byteOfNat r.q, byteOfInt r.level] ++
    s.key.context.bytes ++ (s.key.view s.working.scene).keyBytes ++
    monitorVoice s.engine.channels.v0 s.planner.voices.v0 ++ monitorVoice s.engine.channels.v1 s.planner.voices.v1 ++
    monitorVoice s.engine.channels.v2 s.planner.voices.v2 ++ monitorVoice s.engine.channels.v3 s.planner.voices.v3)

/-- GET STATUS, kind 01h. -/
def execGetStatus (seq : Byte) (payload : List Byte) (s : State) : Host.Outcome State Fault Refusal :=
  .next (dispatchRead 0x01 seq payload noPayload statusReport s)

/-- MONITOR, kind 02h. -/
def execMonitor (seq : Byte) (payload : List Byte) (s : State) : Host.Outcome State Fault Refusal :=
  .next (dispatchRead 0x02 seq payload noPayload monitorReport s)

/-! ### Setup (R6, R8, R43, R112) -/

/-- SET ENGINE MODE's work (R112). -/
def engineModeWork (a : Byte) (s : State) : State × Reply :=
  match EngineMode.ofByte a with
  | some m => ({ s with mixer := { s.mixer with mode := m } }, .ok [m.byte])
  | none => (s, .bare .badField)

/-- SET TUNING's work (R8). -/
def tuningWork (a : Byte × Byte) (s : State) : State × Reply :=
  let f := clampNat 4150 4660 (word16 a.1 a.2).toNat
  ({ s with tracker := { s.tracker with fRef := f } }, .ok (twoBytesNat f))

/-- SET TRACKER's work (R6). -/
def trackerWork (p : List Byte) (s : State) : State × Reply :=
  let c := clampSettings (nat16At p 0) (nat16At p 2) (intAt p 4) (natAt p 5) (natAt p 6) (natAt p 7) (natAt p 8)
  ({ s with tracker := { s.tracker with settings := c } }, .ok c.bytes)

/-- A template's three bytes: set and scale index. -/
def Template.bytes (t : Template) : List Byte := pitchSetBytes t.intervals ++ [byteOfNat t.scaleIndex]

/-- READ SETUP's reply (R21, R43). -/
def setupReport (_ : Unit) (s : State) : Reply :=
  .ok (s.tracker.settings.bytes ++ twoBytesNat s.tracker.fRef ++ s.key.scales.toList.flatMap pitchSetBytes ++
    s.key.templates.toList.flatMap Template.bytes ++ [s.key.policy.byte])

/-- SET ENGINE MODE, kind 04h. -/
def execSetEngineMode (seq : Byte) (payload : List Byte) (s : State) : Host.Outcome State Fault Refusal :=
  .next (dispatch 0x04 seq payload onePayload engineModeWork s)

/-- SET TUNING, kind 10h. -/
def execSetTuning (seq : Byte) (payload : List Byte) (s : State) : Host.Outcome State Fault Refusal :=
  .next (dispatch 0x10 seq payload twoPayload tuningWork s)

/-- SET TRACKER, kind 11h. DEDUCED: the published record stays as it is, its T16 before the first frame completion too, where R20
gives Tlo and R5 recomputes it (log 14). -/
def execSetTracker (seq : Byte) (payload : List Byte) (s : State) : Host.Outcome State Fault Refusal :=
  .next (dispatch 0x11 seq payload (lengthPayload 9) trackerWork s)

/-- READ SETUP, kind 12h. -/
def execReadSetup (seq : Byte) (payload : List Byte) (s : State) : Host.Outcome State Fault Refusal :=
  .next (dispatchRead 0x12 seq payload noPayload setupReport s)

/-! ### Key and chord (chapter 2) -/

/-- The unit's result put in the state, its notices raised (R41). -/
def State.applyKey (s : State) (r : KeyResult) : State :=
  ((({ s with key := r.key }).raiseIf r.overflow .setOverflow).raiseIf r.changed .chordChanged).raiseIf r.unrecognised
    .chordUnrecognized

/-- NOTE's work (R24 to R27): the note number and the action, OFF 00h or ON 01h. -/
def noteWork (a : Byte × Byte) (s : State) : State × Reply :=
  if 127 < a.1.toNat ∨ (a.2 ≠ 0 ∧ a.2 ≠ 1) then (s, .bare .badField)
  else
    let r := if a.2 = 1 then s.key.noteOn a.1.toNat else s.key.noteOff a.1.toNat
    (s.applyKey r.2, .ok (r.1.bytes ++ [byteOfNat r.2.key.notes.length] ++ r.2.key.context.bytes))

/-- NOTES CLEAR's work (R28). -/
def notesClearWork (_ : Unit) (s : State) : State × Reply := (s.applyKey s.key.clearNotes, .ok [])

/-- SET SCALE's work (R30). -/
def setScaleWork (a : Byte × Byte × Byte) (s : State) : State × Reply :=
  if 15 < a.1.toNat then (s, .bare .badField)
  else
    let k := s.key.setScale a.1.toNat (pitchSetOf a.2.1 a.2.2)
    ({ s with key := k }, .ok (a.1 :: pitchSetBytes (k.scaleSet a.1.toNat)))

/-- SET TEMPLATE's work (R32). -/
def setTemplateWork (a : Byte × Byte × Byte × Byte) (s : State) : State × Reply :=
  if 11 < a.1.toNat then (s, .bare .badField)
  else
    let k := s.key.setTemplate a.1.toNat (pitchSetOf a.2.1 a.2.2.1) a.2.2.2.toNat
    ({ s with key := k }, .ok (a.1 :: (k.template a.1.toNat).bytes))

/-- SET CHORD POLICY's work (R38). -/
def chordPolicyWork (a : Byte) (s : State) : State × Reply :=
  match ReleasePolicy.ofByte a with
  | some p => ({ s with key := { s.key with policy := p } }, .ok [p.byte])
  | none => (s, .bare .badField)

/-- READ CONTEXT's reply (R42). The key is that of the scene in force, even while a follow record waits: R42's table names the
Working Scene now in force, its prose a frame completion, which would first install the followed record (log 25). -/
def contextReport (_ : Unit) (s : State) : Reply :=
  .ok ([byteOfNat s.key.notes.length] ++ s.key.notes.map byteOfNat ++
    List.replicate (10 - s.key.notes.length) absentByte ++ s.key.context.bytes ++
    (s.key.chordTones.map pitchSetBytes).getD absentTwo ++ [s.key.policy.byte] ++
    (s.key.view s.working.scene).keyBytes)

/-- NOTE, kind 20h. -/
def execNote (seq : Byte) (payload : List Byte) (s : State) : Host.Outcome State Fault Refusal :=
  .next (dispatch 0x20 seq payload twoPayload noteWork s)

/-- NOTES CLEAR, kind 21h. -/
def execNotesClear (seq : Byte) (payload : List Byte) (s : State) : Host.Outcome State Fault Refusal :=
  .next (dispatch 0x21 seq payload noPayload notesClearWork s)

/-- SET SCALE, kind 22h. -/
def execSetScale (seq : Byte) (payload : List Byte) (s : State) : Host.Outcome State Fault Refusal :=
  .next (dispatch 0x22 seq payload threePayload setScaleWork s)

/-- SET TEMPLATE, kind 23h. -/
def execSetTemplate (seq : Byte) (payload : List Byte) (s : State) : Host.Outcome State Fault Refusal :=
  .next (dispatch 0x23 seq payload fourPayload setTemplateWork s)

/-- SET CHORD POLICY, kind 24h. -/
def execSetChordPolicy (seq : Byte) (payload : List Byte) (s : State) : Host.Outcome State Fault Refusal :=
  .next (dispatch 0x24 seq payload onePayload chordPolicyWork s)

/-- READ CONTEXT, kind 25h. -/
def execReadContext (seq : Byte) (payload : List Byte) (s : State) : Host.Outcome State Fault Refusal :=
  .next (dispatchRead 0x25 seq payload noPayload contextReport s)

/-! ### Notices (10.2) -/

/-- A notice set as a byte. -/
def noticeByte (x : NoticeSet) : Byte := x.zeroExtend 8

/-- READ NOTICES's reply (R177). -/
def noticesReport (_ : Unit) (s : State) : Reply :=
  .ok (noticeGroups.flatMap (fun g => [noticeByte s.notices.pending[g], noticeByte (s.notices.detected g)]) ++
    [(s.notices.topGroup.map fun g => byteOfNat g.val).getD absentByte])

/-- CLEAR NOTICES's work (R178). -/
def clearNoticesWork (a : Byte × Byte) (s : State) : State × Reply :=
  if h : a.1.toNat < 6 then
    ({ s with notices := s.notices.clear ⟨a.1.toNat, h⟩ (a.2.extractLsb' 0 3) }, .ok [])
  else (s, .bare .badField)

/-- The configuration CONFIGURE NOTICES stores (R179): levels and mask clamped into 0..7, bits beyond a group's sources
clear. -/
def Notices.configure (u : Notices) (p : List Byte) : Notices :=
  { u with
    levels := Vector.ofFn fun i => clampNat 0 7 (natAt p i.val)
    enabled := Vector.ofFn fun i => (byteAt p (5 + i.val)).extractLsb' 0 3 &&& groupSources i.succ
    mask := clampNat 0 7 (natAt p 10) }

/-- The eleven values as stored. -/
def Notices.configBytes (u : Notices) : List Byte :=
  u.levels.toList.map byteOfNat ++ u.enabled.toList.map noticeByte ++ [byteOfNat u.mask]

/-- CONFIGURE NOTICES's work (R179). -/
def configureWork (p : List Byte) (s : State) : State × Reply :=
  let u := s.notices.configure p
  ({ s with notices := u }, .ok u.configBytes)

/-- READ NOTICES, kind 60h. -/
def execReadNotices (seq : Byte) (payload : List Byte) (s : State) : Host.Outcome State Fault Refusal :=
  .next (dispatchRead 0x60 seq payload noPayload noticesReport s)

/-- CLEAR NOTICES, kind 61h. -/
def execClearNotices (seq : Byte) (payload : List Byte) (s : State) : Host.Outcome State Fault Refusal :=
  .next (dispatch 0x61 seq payload twoPayload clearNoticesWork s)

/-- CONFIGURE NOTICES, kind 62h. -/
def execConfigureNotices (seq : Byte) (payload : List Byte) (s : State) : Host.Outcome State Fault Refusal :=
  .next (dispatch 0x62 seq payload (lengthPayload 11) configureWork s)

end Sys2Proof.Machine
end

