-- ==== Sys2Proof/Machine/StoreRead.lean ====
section
/-! DEFINITION. Reading a slot of the Scene Store or of the overlay that stands in for its bank (R121, R129, R140, R154,
R156). -/

namespace Sys2Proof.Machine

/-- The place of slot `i` of bank `b` in the array and the table. -/
def slotIndex (b i : Nat) : Nat := 8 * b + i

/-- An operation is in flight (R155). -/
def SceneStore.inFlight (st : SceneStore) : Bool :=
  match st.op with
  | some o => o.status = .inFlight
  | none => false

/-- The BUSY targets (R156): a program in flight on that slot, or an erase in flight on that bank. -/
def SceneStore.busyAt (st : SceneStore) (b i : Nat) : Bool :=
  match st.op with
  | some o =>
    o.status = .inFlight && (match o.work with
      | .program b' i' _ _ => b' = b && i' = i
      | .erase b' _ => b' = b)
  | none => false

/-- A slot's state, from the slot state table (R154). -/
def SceneStore.stateAt (st : SceneStore) (b i : Nat) : SlotState := st.table[slotIndex b i]?.getD .incomplete

/-- A VALID slot's record, read from the nonvolatile array (R154). -/
def SceneStore.recordAt (st : SceneStore) (b i : Nat) : Option Scene :=
  if st.stateAt b i = .valid then
    (match st.array[slotIndex b i]?.getD .incomplete with
     | .valid r => some r
     | _ => none)
  else none

/-- An overlay slot's record, absent when EMPTY (R127). -/
def Overlay.recordAt (o : Overlay) (i : Nat) : Option Scene := (o.ram[i]?).getD none

/-- What a request that needs a slot's record finds (R121, R140). -/
inductive SlotRead where
  | overlay (record : Scene)
  | store (record : Scene)
  | notValid
  | busy
  deriving DecidableEq, Repr

/-- The slot a LOAD SCENE or an ENQUEUE CUE reads: the overlay's when the bank is mapped, else the store's (R121, R129, R140). -/
def State.readSlot (s : State) (b i : Nat) : SlotRead :=
  if s.overlay.mapped = some b then
    (match s.overlay.recordAt i with
     | some r => .overlay r
     | none => .notValid)
  else if s.store.busyAt b i then .busy
  else match s.store.recordAt b i with
    | some r => .store r
    | none => .notValid

/-- A slot state with its record when VALID, as READ SLOT and OVERLAY READ carry it (9.5). -/
def overlaySlotBytes : Option Scene → List Byte
  | some r => 1 :: r.bytes
  | none => [0]

end Sys2Proof.Machine
end

