-- ==== Sys2Proof/Machine/Cues.lean ====
section
/-! DEFINITION. The Cue Queue: removal and landing, and the cue requests and PHRASE START (chapter 7). -/

namespace Sys2Proof.Machine

/-! ### The results list and removals (7.6, 7.8) -/

/-- An entry joins the results list; on a full list the oldest is dropped and the entry's overflow mark is set (R149). -/
def addResult (rs : List CueResult) (e : CueResult) : List CueResult :=
  if rs.length < 16 then rs ++ [{ e with overflow := false }] else rs.tail ++ [{ e with overflow := true }]

/-- The notice of an entry's outcome (R151). -/
def CueOutcome.source : CueOutcome → Source
  | .landed _ => .cueLanded
  | _ => .cueDiscarded

/-- The armed counter an entry carries: the counter for the head, 0 for a cue removed while QUEUED (R149). -/
def Cue.resultCounter (c : Cue) (counter : Nat) : Nat := if c.state = .queued then 0 else counter

/-- Record one removal: its entry joins the list and its notices are raised (R149, R151). -/
def State.recordRemoval (s : State) (c : Cue) (o : CueOutcome) : State :=
  (({ s with
      cues := { s.cues with
        results := addResult s.cues.results ⟨c.tag, o, c.state, c.resultCounter s.cues.counter, false⟩ } }).raise
      o.source).raiseIf (16 ≤ s.cues.results.length) .resultsOverflow

/-- Arm the head of the queue and zero the armed counter (R137); an empty queue has counter 0 (R136). -/
def CueQueue.armHead (q : CueQueue) (rest : List Cue) : CueQueue :=
  { q with
    counter := 0
    queue := match rest with
      | [] => []
      | c :: cs => { c with state := .armed } :: cs }

/-- Remove every cue, from the head back, with one outcome (R141, R146, R147). -/
def State.removeAll (s : State) (o : CueOutcome) : State :=
  let s1 := s.cues.queue.foldl (fun acc c => acc.recordRemoval c o) s
  { s1 with cues := { s1.cues with queue := [], counter := 0 } }

/-- The head lands (R139): its scene becomes the Working Scene, its entry joins the results, CUE LANDED is raised, and the
cue behind it is armed. -/
def State.landHead (s : State) (c : Cue) (rest : List Cue) (h : How) : State :=
  let s1 := { s with working := { scene := c.scene, origin := ⟨.cue c.tag, false⟩, follow := none } }
  let s2 := s1.recordRemoval c (.landed h)
  { s2 with cues := s2.cues.armHead rest }

/-- What an event did to the head (9.7, head action and how). -/
inductive HeadAction where
  | counted
  | nowLanding
  | landed (how : How)
  deriving DecidableEq, Repr

/-- The action and the how, the how absent unless LANDED. -/
def HeadAction.bytes : HeadAction → List Byte
  | .counted => [0, absentByte]
  | .nowLanding => [1, absentByte]
  | .landed h => [2, h.byte]

/-- An ARMED head is triggered (R138): it lands at once, or becomes LANDING. -/
def State.triggerHead (s : State) (c : Cue) (rest : List Cue) : State × HeadAction :=
  match c.landing with
  | .atTrigger => (s.landHead c rest .trigger, .landed .trigger)
  | .atPhrase => ({ s with cues := { s.cues with queue := { c with state := .landing } :: rest } }, .nowLanding)

/-! ### Enqueueing (7.4) -/

/-- The fields of an ENQUEUE CUE (9.5): its eight bytes, and the record's 58 for an INLINE source. -/
structure EnqueueFields where
  tag : Byte
  source : Byte
  bank : Byte
  slot : Byte
  trigger : Byte
  count : Byte
  landing : Byte
  deadline : Byte
  record : List Byte
  deriving DecidableEq, Repr

/-- The payload of ENQUEUE CUE, its length checked against the source byte (R170 step 3). -/
def enqueuePayload : List Byte → Option EnqueueFields
  | t :: src :: b :: i :: tr :: n :: la :: d :: rec =>
    if (src = 0 ∧ rec.length = 0) ∨ (src = 1 ∧ rec.length = 58) ∨ (src ≠ 0 ∧ src ≠ 1 ∧ (rec.length = 0 ∨ rec.length = 58))
    then some ⟨t, src, b, i, tr, n, la, d, rec⟩ else none
  | _ => none

/-- Where the cue's scene comes from, after the first check of R140. -/
inductive EnqueueSource where
  | slot (bank slot : Nat)
  | inline (scene : Scene)
  deriving DecidableEq, Repr

/-- An ENQUEUE CUE that passed the first check of R140, its numeric fields clamped. -/
structure Enqueue where
  tag : Nat
  source : EnqueueSource
  trigger : CueTrigger
  landing : CueLanding
  deadline : Nat
  clamped : Bool
  deriving DecidableEq, Repr

/-- The trigger with its count clamped, and whether the clamp acted (R140). -/
def enqueueTrigger (trigger count : Byte) : Option (CueTrigger × Bool) :=
  if trigger = 0 then some (.footswitch, false)
  else if trigger = 1 then
    some (.beats (clampNat 1 64 count.toNat), clampNat 1 64 count.toNat ≠ count.toNat)
  else if trigger = 2 then some (.phrase, false)
  else none

/-- The source checked: a bank and a slot within 0..7, or an inline record that passes step 1 of R117, with its clamp mark. -/
def enqueueSource (f : EnqueueFields) : Option (EnqueueSource × Bool) :=
  if f.source = 0 then
    (if 7 < f.bank.toNat ∨ 7 < f.slot.toNat then none else some (.slot f.bank.toNat f.slot.toNat, false))
  else if f.source = 1 then (parseScene f.record).map fun sc => (.inline sc, clampMark f.record sc)
  else none

/-- The first check of R140: none is BAD_FIELD. -/
def checkEnqueue (f : EnqueueFields) : Option Enqueue :=
  if f.tag = 0 then none
  else match enqueueTrigger f.trigger f.count, CueLanding.ofByte f.landing, enqueueSource f with
    | some t, some la, some src =>
      some { tag := f.tag.toNat, source := src.1, trigger := t.1, landing := la,
             deadline := clampNat 0 64 f.deadline.toNat,
             clamped := t.2 || src.2 || clampNat 0 64 f.deadline.toNat ≠ f.deadline.toNat }
    | _, _, _ => none

/-- The scene an entered cue copies, or the refusal of its source (R140). -/
def State.enqueueScene (s : State) : EnqueueSource → Except ReplyCode (Scene × CueSource)
  | .inline sc => .ok (sc, .inline)
  | .slot b i =>
    match s.readSlot b i with
    | .overlay r => .ok (r, .slot b i)
    | .store r => .ok (r, .slot b i)
    | .busy => .error .busy
    | .notValid => .error .notValid

/-- The queue with a cue entered at its back: armed if it becomes the head (R137, R140). -/
def CueQueue.enter (q : CueQueue) (c : Cue) : CueQueue :=
  match q.queue with
  | [] => { q with queue := [{ c with state := .armed }], counter := 0 }
  | cs => { q with queue := cs ++ [{ c with state := .queued }] }

/-- ENQUEUE CUE's work (R140, R141). -/
def enqueueWork (f : EnqueueFields) (s : State) : State × Reply :=
  match checkEnqueue f with
  | none => (s, .bare .badField)
  | some e =>
    if s.cues.queue.any (·.tag = e.tag) then
      (s.removeAll .queueAbort, ⟨.duplicateTag, [byteOfNat s.cues.queue.length]⟩)
    else if 16 ≤ s.cues.queue.length then (s, .bare .queueFull)
    else match s.enqueueScene e.source with
      | .error c => (s, .bare c)
      | .ok (sc, src) =>
        let q := s.cues.enter ⟨e.tag, sc, src, e.trigger, e.landing, e.deadline, .queued⟩
        ({ s with cues := q },
          .ok [byteOfNat e.tag, byteOfNat q.queue.length, if s.cues.queue = [] then CueState.armed.byte else CueState.queued.byte,
            byteOfNat q.queue.length, markByte e.clamped])

/-! ### Events at the head (7.5) -/

/-- The armed counter raised by one, stopping at 255 (R136, R142). -/
def raiseCounter (n : Nat) : Nat := if n < 255 then n + 1 else 255

/-- BEAT's work (R142). -/
def beatWork (_ : Unit) (s : State) : State × Reply :=
  match s.cues.queue with
  | [] => (s, .bare .nothing)
  | c :: rest =>
    let n := raiseCounter s.cues.counter
    let s1 := { s with cues := { s.cues with counter := n } }
    let reply := fun (a : HeadAction) => Reply.ok ([byteOfNat c.tag, byteOfNat n] ++ a.bytes)
    if c.deadline ≠ 0 ∧ n = c.deadline then (s1.landHead c rest .deadline, reply (.landed .deadline))
    else if c.state = .armed ∧ c.trigger = .beats n then
      ((s1.triggerHead c rest).1, reply (s1.triggerHead c rest).2)
    else (s1, reply .counted)

/-- FIRE's work (R143). -/
def fireWork (_ : Unit) (s : State) : State × Reply :=
  match s.cues.queue with
  | [] => (s, .bare .nothing)
  | c :: rest =>
    let reply := fun (a : HeadAction) => Reply.ok (byteOfNat c.tag :: a.bytes)
    if c.state = .landing then (s.landHead c rest .forced, reply (.landed .forced))
    else ((s.triggerHead c rest).1, reply (s.triggerHead c rest).2)

/-- A PHRASE START acts on the head (R144). -/
def State.phraseStartAtHead (s : State) : State :=
  match s.cues.queue with
  | [] => s
  | c :: rest =>
    if c.state = .landing then s.landHead c rest .phrase
    else if c.trigger = .phrase then (s.triggerHead c rest).1
    else s

/-! ### Removal without landing (7.6) -/

/-- The cue queue without the cue of a tag; a removed head arms the cue behind it (R145). -/
def CueQueue.withoutTag (q : CueQueue) (tag : Nat) : CueQueue :=
  match q.queue with
  | [] => q
  | c :: rest =>
    if c.tag = tag then q.armHead rest else { q with queue := c :: rest.eraseP (·.tag = tag) }

/-- CANCEL CUE's work (R145). -/
def cancelWork (t : Byte) (s : State) : State × Reply :=
  if t = 0 then (s, .bare .badField)
  else match s.cues.queue.find? (·.tag = t.toNat) with
    | none => (s, .bare .notFound)
    | some c =>
      let s1 := s.recordRemoval c .cancelled
      let s2 := { s1 with cues := s1.cues.withoutTag t.toNat }
      (s2, .ok [t, c.state.byte, byteOfNat s2.cues.queue.length])

/-- CLEAR CUES's work (R146). -/
def clearCuesWork (_ : Unit) (s : State) : State × Reply :=
  (s.removeAll .cleared, .ok [byteOfNat s.cues.queue.length])

/-! ### Reports (7.8, 7.9) -/

/-- A cue's nine bytes in LIST CUES (R152, 9.5). -/
def Cue.bytes (c : Cue) : List Byte :=
  [byteOfNat c.tag, c.state.byte] ++ c.trigger.bytes ++ [c.landing.byte, byteOfNat c.deadline] ++ c.source.bytes

/-- LIST CUES's reply (R152). -/
def listCuesReport (_ : Unit) (s : State) : Reply :=
  .ok ([byteOfNat s.cues.queue.length, byteOfNat s.cues.counter] ++ s.cues.queue.flatMap Cue.bytes)

/-- A results entry's six bytes (R149, 9.5). -/
def CueResult.bytes (e : CueResult) : List Byte :=
  [byteOfNat e.tag] ++ e.outcome.bytes ++ [e.state.byte, byteOfNat e.counter, markByte e.overflow]

/-- READ CUE RESULTS's work (R150). -/
def readResultsWork (_ : Unit) (s : State) : State × Reply :=
  ({ s with cues := { s.cues with results := [] } },
    .ok (byteOfNat s.cues.results.length :: s.cues.results.flatMap CueResult.bytes))

/-! ### The commands -/

/-- ENQUEUE CUE, kind 40h. -/
def execEnqueueCue (seq : Byte) (payload : List Byte) (s : State) : Host.Outcome State Fault Refusal :=
  .next (dispatch 0x40 seq payload enqueuePayload enqueueWork s)

/-- FIRE, kind 41h. -/
def execFire (seq : Byte) (payload : List Byte) (s : State) : Host.Outcome State Fault Refusal :=
  .next (dispatch 0x41 seq payload noPayload fireWork s)

/-- CANCEL CUE, kind 42h. -/
def execCancelCue (seq : Byte) (payload : List Byte) (s : State) : Host.Outcome State Fault Refusal :=
  .next (dispatch 0x42 seq payload onePayload cancelWork s)

/-- CLEAR CUES, kind 43h. -/
def execClearCues (seq : Byte) (payload : List Byte) (s : State) : Host.Outcome State Fault Refusal :=
  .next (dispatch 0x43 seq payload noPayload clearCuesWork s)

/-- LIST CUES, kind 44h. -/
def execListCues (seq : Byte) (payload : List Byte) (s : State) : Host.Outcome State Fault Refusal :=
  .next (dispatchRead 0x44 seq payload noPayload listCuesReport s)

/-- READ CUE RESULTS, kind 45h. -/
def execReadCueResults (seq : Byte) (payload : List Byte) (s : State) : Host.Outcome State Fault Refusal :=
  .next (dispatch 0x45 seq payload noPayload readResultsWork s)

/-- BEAT, kind 46h. -/
def execBeat (seq : Byte) (payload : List Byte) (s : State) : Host.Outcome State Fault Refusal :=
  .next (dispatch 0x46 seq payload noPayload beatWork s)

/-- PHRASE START: the Cue Queue takes a PHRASE START the tracker has raised (R144). The Notice Unit received it at the frame
completion that raised it (R19). Where none awaits there is none to take (logs 1 and 8). -/
def execPhraseStart (s : State) : Host.Outcome State Fault Refusal :=
  .next (if 0 < s.tracker.phraseStartsAwaiting then
    ({ s with tracker := { s.tracker with phraseStartsAwaiting := s.tracker.phraseStartsAwaiting - 1 } }).phraseStartAtHead
  else s)

end Sys2Proof.Machine
end

