-- ==== Sys2Proof/Machine/Scenes.lean ====
section
/-! DEFINITION. The Working Scene and the Rehearsal Overlay: loading, editing, reading, the overlay's requests (chapter 6). -/

namespace Sys2Proof.Machine

/-! ### The Working Scene -/

/-- A load answered OK: the record in force, its origin, the follow record absent, every cue PREEMPTED (R119, R121, R122,
R147). -/
def State.loadRecord (s : State) (sc : Scene) (src : OriginSource) : State :=
  { s with working := { scene := sc, origin := ⟨src, false⟩, follow := none } }.removeAll .preempted

/-- LOAD SCENE's work (R121). -/
def loadSceneWork (a : Byte × Byte) (s : State) : State × Reply :=
  let b := a.1.toNat
  let i := a.2.toNat
  if 7 < b ∨ 7 < i then (s, .bare .badField)
  else match s.readSlot b i with
    | .overlay r =>
      let s1 := s.loadRecord r (.overlay b i false)
      (s1, .ok s1.working.origin.bytes)
    | .store r =>
      let s1 := s.loadRecord r (.slot b i)
      (s1, .ok s1.working.origin.bytes)
    | .notValid => (s, .bare .notValid)
    | .busy => (s, .bare .busy)

/-- LOAD INLINE SCENE's work (R122). -/
def loadInlineWork (p : List Byte) (s : State) : State × Reply :=
  match parseScene p with
  | none => (s, .bare .badField)
  | some sc => (s.loadRecord sc .inline, .ok [markByte (clampMark p sc)])

/-- EDIT WORKING SCENE's work (R124, R125). -/
def editWork (a : Byte × Byte × Byte × Byte) (s : State) : State × Reply :=
  let v := (word16 a.2.2.1 a.2.2.2).toInt
  match editScene s.working.scene a.1.toNat a.2.1.toNat v with
  | none => (s, .bare .badField)
  | some e =>
    ({ s with working := { s.working with scene := e.scene, origin := { s.working.origin with edited := true } } },
      .ok ([a.1, a.2.1] ++ twoBytesInt e.stored ++ (e.second.map twoBytesInt).getD absentTwo ++ [markByte e.clamped]))

/-- READ WORKING SCENE's reply (R126). -/
def readWorkingReport (_ : Unit) (s : State) : Reply :=
  .ok (s.working.scene.bytes ++ s.working.origin.bytes ++ [markByte s.working.follow.isSome])

/-! ### The Rehearsal Overlay -/

/-- The origin's detached mark is set where the origin is OVERLAY and the condition on its bank holds (R119, R128, R133). -/
def OriginSource.detachIf (src : OriginSource) (c : Nat → Bool) : OriginSource :=
  match src with
  | .overlay b i d => .overlay b i (d || c b)
  | other => other

/-- The eight RAM slots an OVERLAY ON copies from a bank of the store (R128). -/
def SceneStore.copyBank (st : SceneStore) (b : Nat) : Vector (Option Scene) 8 := Vector.ofFn fun i => st.recordAt b i.val

/-- The states of the RAM slots as bytes (9.7). -/
def Overlay.stateBytes (o : Overlay) : List Byte := o.ram.toList.map fun r => if r.isSome then 1 else 0

/-- OVERLAY ON's work (R128). -/
def overlayOnWork (a : Byte) (s : State) : State × Reply :=
  if 7 < a.toNat then (s, .bare .badField)
  else if s.store.frozen then (s, .bare .frozen)
  else if s.store.inFlight then (s, .bare .busy)
  else
    let o : Overlay := { mapped := some a.toNat, ram := s.store.copyBank a.toNat }
    ({ s with
        overlay := o
        working := { s.working with
          follow := none
          origin := { s.working.origin with source := s.working.origin.source.detachIf fun b => b ≠ a.toNat } } },
      .ok (a :: o.stateBytes))

/-- OVERLAY OFF's work (R133). -/
def overlayOffWork (_ : Unit) (s : State) : State × Reply :=
  let reply := Reply.ok [(s.overlay.mapped.map byteOfNat).getD absentByte]
  if s.overlay.mapped.isNone then (s, reply)
  else
    ({ s with
        overlay := { s.overlay with mapped := none }
        working := { s.working with
          follow := none
          origin := { s.working.origin with source := s.working.origin.source.detachIf fun _ => true } } },
      reply)

/-- The origin is OVERLAY, not detached, with the given slot (R131). -/
def OriginSource.follows (src : OriginSource) (i : Nat) : Bool :=
  match src with
  | .overlay _ i' d => i' = i && !d
  | _ => false

/-- OVERLAY WRITE's work (R130, R131): the slot number, then the 58 bytes of the record. -/
def overlayWriteWork (p : List Byte) (s : State) : State × Reply :=
  let i := natAt p 0
  if 7 < i then (s, .bare .badField)
  else match parseScene p.tail with
    | none => (s, .bare .badField)
    | some sc =>
      ({ s with
          overlay := { s.overlay with ram := s.overlay.ram.setIfInBounds i (some sc) }
          working := { s.working with
            follow := if s.working.origin.source.follows i then some ⟨i, sc⟩ else s.working.follow } },
        .ok [markByte (clampMark p.tail sc)])

/-- OVERLAY READ's reply (R134). -/
def overlayReadReport (a : Byte) (s : State) : Reply :=
  if 7 < a.toNat then .bare .badField else .ok (overlaySlotBytes (s.overlay.recordAt a.toNat))

/-! ### The commands -/

/-- LOAD SCENE, kind 30h. -/
def execLoadScene (seq : Byte) (payload : List Byte) (s : State) : Host.Outcome State Fault Refusal :=
  .next (dispatch 0x30 seq payload twoPayload loadSceneWork s)

/-- LOAD INLINE SCENE, kind 31h. -/
def execLoadInlineScene (seq : Byte) (payload : List Byte) (s : State) : Host.Outcome State Fault Refusal :=
  .next (dispatch 0x31 seq payload (lengthPayload 58) loadInlineWork s)

/-- EDIT WORKING SCENE, kind 32h. -/
def execEditWorkingScene (seq : Byte) (payload : List Byte) (s : State) : Host.Outcome State Fault Refusal :=
  .next (dispatch 0x32 seq payload fourPayload editWork s)

/-- READ WORKING SCENE, kind 33h. -/
def execReadWorkingScene (seq : Byte) (payload : List Byte) (s : State) : Host.Outcome State Fault Refusal :=
  .next (dispatchRead 0x33 seq payload noPayload readWorkingReport s)

/-- OVERLAY ON, kind 58h. -/
def execOverlayOn (seq : Byte) (payload : List Byte) (s : State) : Host.Outcome State Fault Refusal :=
  .next (dispatch 0x58 seq payload onePayload overlayOnWork s)

/-- OVERLAY OFF, kind 59h. -/
def execOverlayOff (seq : Byte) (payload : List Byte) (s : State) : Host.Outcome State Fault Refusal :=
  .next (dispatch 0x59 seq payload noPayload overlayOffWork s)

/-- OVERLAY WRITE, kind 5Ah. -/
def execOverlayWrite (seq : Byte) (payload : List Byte) (s : State) : Host.Outcome State Fault Refusal :=
  .next (dispatch 0x5A seq payload (lengthPayload 59) overlayWriteWork s)

/-- OVERLAY READ, kind 5Bh. -/
def execOverlayRead (seq : Byte) (payload : List Byte) (s : State) : Host.Outcome State Fault Refusal :=
  .next (dispatchRead 0x5B seq payload onePayload overlayReadReport s)

end Sys2Proof.Machine
end

