-- ==== Sys2Proof/Machine/Store.lean ====
section
/-! DEFINITION. The Scene Store: starting, carrying on and abandoning an operation, reading, reporting, freezing (chapter 8). -/

namespace Sys2Proof.Machine

/-! ### The operation -/

/-- The operation timer's bound, 1,500 ms (R160). -/
def timerMicros : Nat := 1500000

/-- A slot's header and its table entry (R154). -/
def SceneStore.setSlot (st : SceneStore) (b i : Nat) (x : Slot) : SceneStore :=
  { st with array := st.array.setIfInBounds (slotIndex b i) x, table := st.table.setIfInBounds (slotIndex b i) x.state }

/-- All eight slots of a bank become BLANK (R159). -/
def SceneStore.blankBank (st : SceneStore) (b : Nat) : SceneStore :=
  (List.range 8).foldl (fun acc i => acc.setSlot b i .blank) st

/-- No pulse is in progress any more. -/
def StoreOp.cut (o : StoreOp) : StoreOp := { o with pulsing := false, pulseMicros := 0 }

/-- An operation ends DONE: STORE DONE is raised (R161). -/
def State.finishOp (s : State) (o : StoreOp) : State :=
  { s with store := { s.store with op := some { o.cut with status := .done } } }.raise .storeDone

/-- An operation ends FAILED: STORE FAILED is raised, the fault latch is set, and STORE FAULT is raised where the latch was
clear (R160, R161). Its phase and progress keep their values; a pulse in progress is cut. -/
def State.failOp (s : State) (o : StoreOp) (c : FailureCause) : State :=
  ({ s with store := { s.store with op := some { o.cut with status := .failed c }, latch := true } }.raise .storeFailed).raiseIf (!s.store.latch) .storeFault

/-- The length of the pulse in progress with its verify: 120 µs, or 10.5 ms for an erase pulse (R158, R159); none while the
programming voltage is awaited. -/
def StoreOp.pulseLength (o : StoreOp) : Option Nat :=
  match o.work with
  | .erase _ (.pulse _) => some 10500
  | _ => if o.pulsing then some 120 else none

/-- Time is counted on an operation in flight (R155). A stretch within a pulse ends with the pulse at the latest, since a pulse
and its verify take a fixed time (log 7). -/
def StoreOp.pass (o : StoreOp) (micros : Nat) : StoreOp :=
  match o.pulseLength with
  | some n =>
    { o with elapsedMicros := o.elapsedMicros + min micros (n - o.pulseMicros),
             pulseMicros := o.pulseMicros + min micros (n - o.pulseMicros) }
  | none => { o with elapsedMicros := o.elapsedMicros + micros }

/-- Time passes on an operation in flight: past the timer's bound the operation has been abandoned with cause TIMER and the
event is not taken; up to it the event goes on from the record with the time counted (R155, R160). -/
def State.passTime (s : State) (o : StoreOp) (micros : Nat) (event : StoreOp → State) : State :=
  if timerMicros < (o.pass micros).elapsedMicros then s.failOp { o with elapsedMicros := timerMicros } .timer
  else event (o.pass micros)

/-- The phase awaits the programming voltage before a pulse: every phase but an erase's PULSE (R158, R159). -/
def StoreWork.needsVoltage : StoreWork → Bool
  | .erase _ (.pulse _) => false
  | _ => true

/-- The header a MARK pulse writes on (R158, R159): the slot becomes INCOMPLETE at its first pulse. -/
def SceneStore.markPulse (st : SceneStore) (w : StoreWork) : SceneStore :=
  match w with
  | .program b i _ .mark => st.setSlot b i .incomplete
  | .erase b (.mark i) => st.setSlot b i .incomplete
  | _ => st

/-- The operation in flight, if there is one. -/
def SceneStore.current (st : SceneStore) : Option StoreOp :=
  match st.op with
  | some o => if o.status = .inFlight then some o else none
  | none => none

/-- The voltage is ready: the next pulse of the write in progress starts (R158). -/
def State.startPulse (s : State) (o : StoreOp) : State :=
  { s with store := { s.store.markPulse o.work with op := some { o with pulses := o.pulses + 1, pulsing := true, pulseMicros := 0 } } }

/-- The write in progress goes on to the next one: its count of pulses starts at 0 (R158, R159). -/
def State.nextWrite (s : State) (o : StoreOp) (w : StoreWork) : State :=
  { s with store := { s.store with op := some { o.cut with work := w, pulses := 0 } } }

/-- A write that verified moves the operation on (R158, R159). -/
def State.advanceOp (s : State) (o : StoreOp) : State :=
  match o.work with
  | .program b i r .mark => s.nextWrite o (.program b i r (.write 0))
  | .program b i r (.write n) => s.nextWrite o (.program b i r (if n < 28 then .write (n + 1) else .commit))
  | .program b i r .commit => { s with store := s.store.setSlot b i (.valid r) }.finishOp o
  | .erase b (.mark i) => s.nextWrite o (.erase b (if i < 7 then .mark (i + 1) else .prewrite 0 0))
  | .erase b (.prewrite i n) =>
    s.nextWrite o (.erase b (if n < 29 then .prewrite i (n + 1) else if i < 7 then .prewrite (i + 1) 0 else .pulse 1))
  | .erase _ (.pulse _) => s

/-- A pulse of 120 µs and its verify end: a write that did not verify is repeated, and fails after its 12th pulse (R158). -/
def State.endPulse (s : State) (verified : Bool) (o : StoreOp) : State :=
  if verified then s.advanceOp o
  else if 12 ≤ o.pulses then s.failOp o .verify
  else { s with store := { s.store with op := some o.cut } }

/-- An erase pulse and its bank verify end (R159). -/
def State.endErasePulse (s : State) (erased : Bool) (b n : Nat) (o : StoreOp) : State :=
  if erased then { s with store := s.store.blankBank b }.finishOp o
  else if 60 ≤ n then s.failOp o .verify
  else { s with store := { s.store with op := some { o.cut with work := .erase b (.pulse (n + 1)) } } }

/-! ### The store's events -/

/-- PROGRAMMING_VOLTAGE_READY (R158): taken while the operation in flight awaits the voltage. -/
def execProgrammingVoltageReady (waitMicros : Nat) (s : State) : Host.Outcome State Fault Refusal :=
  .next (match s.store.current with
    | some o => if o.work.needsVoltage && !o.pulsing then s.passTime o waitMicros s.startPulse else s
    | none => s)

/-- STORE_PULSE_VERIFY (R158, R159): taken while a pulse of the operation in flight is being applied. -/
def execStorePulseVerify (verified : Bool) (s : State) : Host.Outcome State Fault Refusal :=
  .next (match s.store.current with
    | some o => if o.work.needsVoltage && o.pulsing then s.passTime o 120 (s.endPulse verified) else s
    | none => s)

/-- ERASE_PULSE_VERIFY (R159): taken while an erase in flight is in its PULSE phase. -/
def execErasePulseVerify (erased : Bool) (s : State) : Host.Outcome State Fault Refusal :=
  .next (match s.store.current with
    | some o =>
      match o.work with
      | .erase b (.pulse n) => s.passTime o 10500 (s.endErasePulse erased b n)
      | _ => s
    | none => s)

/-- TIMER_EXPIRY (R160): the elapsed time of an operation in flight reaches 1,500 ms. -/
def execTimerExpiry (s : State) : Host.Outcome State Fault Refusal :=
  .next (match s.store.current with
    | some o => s.failOp { o with elapsedMicros := timerMicros } .timer
    | none => s)

/-- SUPPLY_LOSS (R160): the sense goes low, and an operation in flight is abandoned with cause SUPPLY. -/
def execSupplyLoss (sinceMicros : Nat) (s : State) : Host.Outcome State Fault Refusal :=
  let s1 := { s with store := { s.store with supplyHigh := false } }
  .next (match s.store.current with
    | some o => s1.passTime o sinceMicros fun o' => s1.failOp o' .supply
    | none => s1)

/-- STORE_SUPPLY_RESTORED (R163). -/
def execStoreSupplyRestored (s : State) : Host.Outcome State Fault Refusal :=
  .next { s with store := { s.store with supplyHigh := true } }

/-! ### Requests (8.3, 8.4, 8.9, 8.10) -/

/-- READ SLOT's reply (R129, R156). -/
def readSlotReport (a : Byte × Byte) (s : State) : Reply :=
  let b := a.1.toNat
  let i := a.2.toNat
  if 7 < b ∨ 7 < i then .bare .badField
  else if s.overlay.mapped = some b then .ok (1 :: overlaySlotBytes (s.overlay.recordAt i))
  else if s.store.busyAt b i then .bare .busy
  else .ok ([0, (s.store.stateAt b i).byte] ++ ((s.store.recordAt b i).map Scene.bytes).getD [])

/-- Checks 3 to 7 of R157, in order; none where all pass. -/
def State.startRefusal (s : State) : Option ReplyCode :=
  if s.store.latch then some .storeFault
  else if s.store.frozen then some .frozen
  else if s.overlay.mapped.isSome then some .overlayActive
  else if s.store.inFlight then some .busy
  else if !s.store.supplyHigh then some .lowSupply
  else none

/-- An accepted operation's record (R155). -/
def newOp (w : StoreWork) : StoreOp := { work := w, status := .inFlight, elapsedMicros := 0, pulses := 0, pulsing := false, pulseMicros := 0 }

/-- PROGRAM SLOT's work (R157): bank, slot, record. -/
def programWork (p : List Byte) (s : State) : State × Reply :=
  let b := natAt p 0
  let i := natAt p 1
  if 7 < b ∨ 7 < i then (s, .bare .badField)
  else match parseScene (p.drop 2) with
    | none => (s, .bare .badField)
    | some sc =>
      match s.startRefusal with
      | some c => (s, .bare c)
      | none =>
        if s.store.stateAt b i ≠ .blank then (s, .bare .notBlank)
        else
          ({ s with store := { s.store with op := some (newOp (.program b i sc .mark)) } },
            ⟨.accepted, [byteOfNat b, byteOfNat i, markByte (clampMark (p.drop 2) sc)]⟩)

/-- ERASE BANK's work (R157). -/
def eraseWork (a : Byte) (s : State) : State × Reply :=
  if 7 < a.toNat then (s, .bare .badField)
  else match s.startRefusal with
    | some c => (s, .bare c)
    | none =>
      ({ s with store := { s.store with op := some (newOp (.erase a.toNat (.mark 0))) } }, ⟨.accepted, [a]⟩)

/-- FREEZE STORE's work (R162). -/
def freezeWork (_ : Unit) (s : State) : State × Reply :=
  if s.store.inFlight then (s, .bare .busy)
  else ({ s with store := { s.store with frozen := true } }, .ok [])

/-- Kind, bank and slot of the operation record (R155, 9.5). -/
def StoreWork.targetBytes : StoreWork → List Byte
  | .program b i _ _ => [1, byteOfNat b, byteOfNat i]
  | .erase b _ => [2, byteOfNat b, absentByte]

/-- Phase and progress of the operation record (R155, 9.7). -/
def StoreWork.phaseBytes : StoreWork → List Byte
  | .program _ _ _ .mark => [0, absentByte]
  | .program _ _ _ (.write n) => [1, byteOfNat n]
  | .program _ _ _ .commit => [2, absentByte]
  | .erase _ (.mark i) => [0, byteOfNat i]
  | .erase _ (.prewrite i _) => [1, byteOfNat i]
  | .erase _ (.pulse n) => [2, byteOfNat n]

/-- The operation record's nine bytes; the elapsed time in whole milliseconds, counted toward zero (R155, R163). -/
def opBytes (op : Option StoreOp) : List Byte :=
  match op with
  | none => [0] ++ List.replicate 8 absentByte
  | some o =>
    o.work.targetBytes ++ [o.status.byte] ++ o.work.phaseBytes ++ twoBytesNat (o.elapsedMicros / 1000) ++ [o.status.causeByte]

/-- The number of slots whose table entry has a state (R163). -/
def SceneStore.count (st : SceneStore) (x : SlotState) : Nat := st.table.toList.countP (· = x)

/-- The counts of VALID, BLANK and INCOMPLETE slots (R163, R173). -/
def SceneStore.countBytes (st : SceneStore) : List Byte :=
  [byteOfNat (st.count .valid), byteOfNat (st.count .blank), byteOfNat (st.count .incomplete)]

/-- The time that has passed on the operation in flight when a STORE STATUS is taken (R155, log 7): where it reaches the timer's
bound the operation has been abandoned (R160). -/
def State.passToStatus (s : State) (sinceMicros : Nat) : State :=
  match s.store.current with
  | some o =>
    if timerMicros ≤ (o.pass sinceMicros).elapsedMicros then s.failOp { o with elapsedMicros := timerMicros } .timer
    else { s with store := { s.store with op := some (o.pass sinceMicros) } }
  | none => s

/-- STORE STATUS's reply (R163). -/
def storeStatusReport (s : State) : Reply :=
  .ok (opBytes s.store.op ++
    [markByte s.store.latch, markByte s.store.frozen, markByte s.store.supplyHigh,
      (s.overlay.mapped.map byteOfNat).getD absentByte] ++
    s.store.table.toList.map SlotState.byte ++ s.store.countBytes)

/-- STORE STATUS's work: the time until it is counted, and the request itself changes nothing (R163). -/
def storeStatusWork (sinceMicros : Nat) (_ : Unit) (s : State) : State × Reply :=
  (s.passToStatus sinceMicros, storeStatusReport (s.passToStatus sinceMicros))

/-- READ SLOT, kind 50h. -/
def execReadSlot (seq : Byte) (payload : List Byte) (s : State) : Host.Outcome State Fault Refusal :=
  .next (dispatchRead 0x50 seq payload twoPayload readSlotReport s)

/-- PROGRAM SLOT, kind 51h. -/
def execProgramSlot (seq : Byte) (payload : List Byte) (s : State) : Host.Outcome State Fault Refusal :=
  .next (dispatch 0x51 seq payload (lengthPayload 60) programWork s)

/-- ERASE BANK, kind 52h. -/
def execEraseBank (seq : Byte) (payload : List Byte) (s : State) : Host.Outcome State Fault Refusal :=
  .next (dispatch 0x52 seq payload onePayload eraseWork s)

/-- STORE STATUS, kind 53h. -/
def execStoreStatus (seq : Byte) (payload : TimedPayload) (s : State) : Host.Outcome State Fault Refusal :=
  .next (dispatch 0x53 seq payload.bytes noPayload (storeStatusWork payload.sinceMicros) s)

/-- FREEZE STORE, kind 54h. -/
def execFreezeStore (seq : Byte) (payload : List Byte) (s : State) : Host.Outcome State Fault Refusal :=
  .next (dispatch 0x54 seq payload noPayload freezeWork s)

end Sys2Proof.Machine
end

