-- ==== Sys2Proof/Machine/StartUp.lean ====
section
/-! DEFINITION. The three resets and the start-up self-check (R164, R172, R173, R180, R181). -/

namespace Sys2Proof.Machine

/-- POWER_ON_RESET (R180): the self-check begins, once RESETn is high where it is held low (log 10). -/
def execPowerOnReset (linkspdHigh : Bool) (s : State) : Host.Outcome State Fault Refusal :=
  .next (s.takeReset .powerOn linkspdHigh (if s.start.phase = .pinHeld then .pinHeld else .selfCheck))

/-- PIN_RESET (R180): the part stays in reset while RESETn is held low. R180 takes the reset at the fall and has the next rise
start a new one: the model takes the values and reads the strap at the fall, a self-check in progress abandoned or not (log 28).
A PIN_RESET while RESETn is already held low takes the reset again (log 29). -/
def execPinReset (linkspdHigh : Bool) (s : State) : Host.Outcome State Fault Refusal :=
  .next (s.takeReset .pin linkspdHigh .pinHeld)

/-- RESETN_RELEASE (R106, R180): a new measurement window starts and the self-check begins, on the values the fall has given
(log 28). -/
def execResetnRelease (s : State) : Host.Outcome State Fault Refusal :=
  .next (if s.start.phase = .pinHeld then
    { s with
      start := { s.start with phase := .selfCheck }
      port := { s.port with windowCount := 0, windowGap := false, gapOpen := false } }
  else s)

/-- SOFT_RESET (R172): taken once a RESET has been taken and every frame, its OK the last, has been sent. -/
def execSoftReset (linkspdHigh : Bool) (s : State) : Host.Outcome State Fault Refusal :=
  .next (if s.start.phase = .up ∧ s.link.stopped ∧ s.link.replies = [] then s.takeReset .soft linkspdHigh .selfCheck else s)

/-- The diagnostic code (R181): the first that applies. -/
def diagnosticCode (ramFault storeUnreadable : Bool) (incomplete : Nat) : Byte :=
  if ramFault then 0x02 else if storeUnreadable then 0x04 else if incomplete ≠ 0 then 0x03 else 0x01

/-- The READY frame (R173). -/
def readyFrame (kind : ResetKind) (code : Byte) (counts : List Byte) : ReplyFrame :=
  { kind := 0xF0, seq := 0x00, code := none, payload := [kind.byte, code] ++ counts }

/-- The scan found the store unreadable: every table entry INCOMPLETE, the latch set, STORE FAULT raised (R164). -/
def State.storeUnreadable (s : State) : State :=
  { s with store := { s.store with table := Vector.replicate 64 .incomplete, latch := true } }.raise .storeFault

/-- The engine when the check ends, its ring zeroed (R101, R181): a capture RAM fault stalls it, a PRESENT clock sets it
running, restarted under R98, and an ABSENT one leaves it STALLED with cause CLOCK. -/
def State.startEngine (s : State) (ramFault : Bool) : State :=
  if ramFault then { s with engine := { s.engine with ring := [], state := .stalled .ramFault } }
  else if s.port.clock = .present then s.clockReturn
  else { s with engine := { s.engine with ring := [], state := .stalled .clock } }

/-- SELF_CHECK_END (R164, R173, R181): taken while the self-check runs. -/
def execSelfCheckEnd (ramFault storeUnreadable : Bool) (s : State) : Host.Outcome State Fault Refusal :=
  .next (if s.start.phase = .selfCheck then
    let s1 := if storeUnreadable then s.storeUnreadable else s
    let s2 := s1.startEngine ramFault
    let code := diagnosticCode ramFault storeUnreadable (s2.store.count .incomplete)
    { s2 with start := { s2.start with phase := .up } }.queueFrame (readyFrame s2.start.kind code s2.store.countBytes)
  else s)

end Sys2Proof.Machine
end

