-- ==== Sys2Proof/Machine/Dispatch.lean ====
section
/-! DEFINITION. The dispatch of the commands: one arm for each row of the table. -/

namespace Sys2Proof.Machine

def exec (i : Instr) (s : State) : Host.Outcome State Fault Refusal :=
  match i with
  | .powerOnReset linkspdHigh => Sys2Proof.Machine.execPowerOnReset linkspdHigh s
  | .pinReset linkspdHigh => Sys2Proof.Machine.execPinReset linkspdHigh s
  | .resetnRelease => Sys2Proof.Machine.execResetnRelease s
  | .softReset linkspdHigh => Sys2Proof.Machine.execSoftReset linkspdHigh s
  | .selfCheckEnd ramFault storeUnreadable => Sys2Proof.Machine.execSelfCheckEnd ramFault storeUnreadable s
  | .sampleEvent x => Sys2Proof.Machine.execSampleEvent x s
  | .frameCompletion x => Sys2Proof.Machine.execFrameCompletion x s
  | .phraseStart => Sys2Proof.Machine.execPhraseStart s
  | .clockGapTimeout => Sys2Proof.Machine.execClockGapTimeout s
  | .measurementWindowEnd => Sys2Proof.Machine.execMeasurementWindowEnd s
  | .frameReceived b => Sys2Proof.Machine.execFrameReceived b s
  | .receiveFault b stopError => Sys2Proof.Machine.execReceiveFault b stopError s
  | .receiveGapTimeout => Sys2Proof.Machine.execReceiveGapTimeout s
  | .badFrame cause => Sys2Proof.Machine.execBadFrame cause s
  | .unknownKind kind seq payload => Sys2Proof.Machine.execUnknownKind kind seq payload s
  | .transmitComplete => Sys2Proof.Machine.execTransmitComplete s
  | .getStatus seq payload => Sys2Proof.Machine.execGetStatus seq payload s
  | .monitor seq payload => Sys2Proof.Machine.execMonitor seq payload s
  | .reset seq payload => Sys2Proof.Machine.execReset seq payload s
  | .setEngineMode seq payload => Sys2Proof.Machine.execSetEngineMode seq payload s
  | .setTuning seq payload => Sys2Proof.Machine.execSetTuning seq payload s
  | .setTracker seq payload => Sys2Proof.Machine.execSetTracker seq payload s
  | .readSetup seq payload => Sys2Proof.Machine.execReadSetup seq payload s
  | .note seq payload => Sys2Proof.Machine.execNote seq payload s
  | .notesClear seq payload => Sys2Proof.Machine.execNotesClear seq payload s
  | .setScale seq payload => Sys2Proof.Machine.execSetScale seq payload s
  | .setTemplate seq payload => Sys2Proof.Machine.execSetTemplate seq payload s
  | .setChordPolicy seq payload => Sys2Proof.Machine.execSetChordPolicy seq payload s
  | .readContext seq payload => Sys2Proof.Machine.execReadContext seq payload s
  | .loadScene seq payload => Sys2Proof.Machine.execLoadScene seq payload s
  | .loadInlineScene seq payload => Sys2Proof.Machine.execLoadInlineScene seq payload s
  | .editWorkingScene seq payload => Sys2Proof.Machine.execEditWorkingScene seq payload s
  | .readWorkingScene seq payload => Sys2Proof.Machine.execReadWorkingScene seq payload s
  | .enqueueCue seq payload => Sys2Proof.Machine.execEnqueueCue seq payload s
  | .fire seq payload => Sys2Proof.Machine.execFire seq payload s
  | .cancelCue seq payload => Sys2Proof.Machine.execCancelCue seq payload s
  | .clearCues seq payload => Sys2Proof.Machine.execClearCues seq payload s
  | .listCues seq payload => Sys2Proof.Machine.execListCues seq payload s
  | .readCueResults seq payload => Sys2Proof.Machine.execReadCueResults seq payload s
  | .beat seq payload => Sys2Proof.Machine.execBeat seq payload s
  | .readSlot seq payload => Sys2Proof.Machine.execReadSlot seq payload s
  | .programSlot seq payload => Sys2Proof.Machine.execProgramSlot seq payload s
  | .eraseBank seq payload => Sys2Proof.Machine.execEraseBank seq payload s
  | .storeStatus seq payload => Sys2Proof.Machine.execStoreStatus seq payload s
  | .freezeStore seq payload => Sys2Proof.Machine.execFreezeStore seq payload s
  | .programmingVoltageReady waitMicros => Sys2Proof.Machine.execProgrammingVoltageReady waitMicros s
  | .storePulseVerify verified => Sys2Proof.Machine.execStorePulseVerify verified s
  | .erasePulseVerify erased => Sys2Proof.Machine.execErasePulseVerify erased s
  | .timerExpiry => Sys2Proof.Machine.execTimerExpiry s
  | .supplyLoss sinceMicros => Sys2Proof.Machine.execSupplyLoss sinceMicros s
  | .storeSupplyRestored => Sys2Proof.Machine.execStoreSupplyRestored s
  | .overlayOn seq payload => Sys2Proof.Machine.execOverlayOn seq payload s
  | .overlayOff seq payload => Sys2Proof.Machine.execOverlayOff seq payload s
  | .overlayWrite seq payload => Sys2Proof.Machine.execOverlayWrite seq payload s
  | .overlayRead seq payload => Sys2Proof.Machine.execOverlayRead seq payload s
  | .readNotices seq payload => Sys2Proof.Machine.execReadNotices seq payload s
  | .clearNotices seq payload => Sys2Proof.Machine.execClearNotices seq payload s
  | .configureNotices seq payload => Sys2Proof.Machine.execConfigureNotices seq payload s
  | .receivedByte b stopError => Sys2Proof.Machine.execReceivedByte b stopError s
  | .frameClockEdge => Sys2Proof.Machine.execFrameClockEdge s

end Sys2Proof.Machine
end

