-- ==== Sys2Proof/Safety.lean ====
section
/-! DEFINITION. What holds of the part at every moment: the ranges of its records and the laws the manual states about its
blocks. Each predicate is decidable; a run is safe while all of them hold. -/

namespace Sys2Proof

/-- A predicate holds of all four voices. -/
abbrev Four.All {α : Type} (p : α → Prop) (f : Four α) : Prop := p f.v0 ∧ p f.v1 ∧ p f.v2 ∧ p f.v3

end Sys2Proof

namespace Sys2Proof.Machine

/-! ### Records in range (R57, R115, R116) -/

/-- `x` lies in `lo..hi`. -/
abbrev within (lo x hi : Int) : Bool := lo ≤ x && x ≤ hi

/-- A voice block's fields lie in their ranges (R57, R116). -/
def VoiceRule.Ok (v : VoiceRule) : Bool :=
  within (amountRange v.mode).1 v.amount (amountRange v.mode).2 && (24 ≤ v.low && v.low + 12 ≤ v.high && v.high ≤ 108) &&
    within (-50) v.detune 50 && within (-120) v.gain 12 && within (-50) v.pan 50

/-- A scene record's fields lie in their ranges (R115, R116). -/
def Scene.Ok (sc : Scene) : Bool :=
  (sc.name.length = 12 && sc.name.all fun b => 0x20 ≤ b.toNat && b.toNat ≤ 0x7E) && sc.tonic ≤ 11 && sc.scaleIndex ≤ 15 &&
    sc.correction ≤ 100 && sc.hysteresis ≤ 40 && sc.glide ≤ 1200 && within 32 sc.crossfade 512 &&
    within (-120) sc.dryGain 12 && within (-50) sc.dryPan 50 && within 1 sc.attack 32 && within 1 sc.release 64 &&
    sc.voices.toList.all VoiceRule.Ok

/-- The record of a VALID slot (R154). -/
def Slot.record? : Slot → Option Scene
  | .valid r => some r
  | _ => none

/-- The record a program writes (R157, R158). -/
def StoreWork.record? : StoreWork → Option Scene
  | .program _ _ r _ => some r
  | .erase _ _ => none

/-- Every scene record the part holds has been checked: the Working Scene, the follow record, the overlay, the cues, the
store, the operation record (R117, R119). -/
abbrev State.ScenesOk (s : State) : Prop :=
  s.working.scene.Ok ∧ (∀ f ∈ s.working.follow, f.scene.Ok) ∧ (∀ x ∈ s.overlay.ram.toList, ∀ r ∈ x, r.Ok) ∧
    (∀ c ∈ s.cues.queue, c.scene.Ok) ∧ (∀ x ∈ s.store.array.toList, ∀ r ∈ x.record?, r.Ok) ∧
    ∀ o ∈ s.store.op, ∀ r ∈ o.work.record?, r.Ok

/-! ### The tracker (R5, R6, R8, R12, R14, R16, R17, R20) -/

/-- The stored settings (R6). -/
abbrev TrackerSettings.Ok (c : TrackerSettings) : Prop :=
  70 ≤ c.lowHz ∧ 2 * c.lowHz ≤ c.highHz ∧ c.highHz ≤ 1400 ∧ (-72 ≤ c.gate ∧ c.gate ≤ -24) ∧ (30 ≤ c.qOn ∧ c.qOn ≤ 95) ∧
    (20 ≤ c.qOff ∧ c.qOff ≤ c.qOn) ∧ c.hold ≤ 60 ∧ (8 ≤ c.phraseGap ∧ c.phraseGap ≤ 250)

/-- A period estimate from some search range (R5). -/
abbrev PeriodOk (t16 : Nat) : Prop := 549 ≤ t16 ∧ t16 ≤ 10971

/-- The tracker's state lies in its ranges; RELEASE has a hold count; a held pitch is present in ONSET, VOICED and RELEASE and absent in SILENT, and the
published record agrees with the state (R1, R6, R8, R12, R14, R16, R17, R20). -/
abbrev Tracker.Ok (t : Tracker) : Prop :=
  t.settings.Ok ∧ (4150 ≤ t.fRef ∧ t.fRef ≤ 4660) ∧ t.window.length = 1024 ∧ t.framePos < 256 ∧ t.onsetCount < 3 ∧
    t.holdCount ≤ 60 ∧ t.silenceCount ≤ 255 ∧ (∀ p ∈ t.lastAccepted, PeriodOk p) ∧
    ((t.state = .onset ∨ t.state = .voiced ∨ t.state = .release) → t.held.isSome) ∧ (t.state = .silent → t.held = none) ∧
    (t.state = .release → 1 ≤ t.holdCount) ∧
    (t.jumpPending.isSome → t.state = .voiced) ∧
    (t.record.state = t.state ∧ t.record.held = t.held ∧ t.record.lastAccepted = t.lastAccepted) ∧
    PeriodOk t.record.t16 ∧ (-96 ≤ t.record.level ∧ t.record.level ≤ 0)

/-! ### The Key Context Unit (R23, R29, R31, R37) -/

/-- The note set holds at most ten distinct notes, every stored set class 0, and the chord context a root and an entry
(R23, R29, R31, R37). -/
abbrev KeyContext.Ok (k : KeyContext) : Prop :=
  k.notes.length ≤ 10 ∧ k.notes.Nodup ∧ (∀ n ∈ k.notes, n ≤ 127) ∧ k.scales.toList.all (fun x => x.getLsbD 0) ∧
    k.templates.toList.all (fun x => x.intervals.getLsbD 0 && x.scaleIndex ≤ 15) ∧
    ∀ c ∈ k.context.chord?, c.1 ≤ 11 ∧ c.2 ≤ 11

/-! ### The planner (chapter 3) -/

/-- A voice's planned values lie in their ranges (R58, R67, R68). -/
abbrev PlanVoice.Ok (v : PlanVoice) : Prop :=
  (∀ h ∈ v.planned, 24 ≤ h ∧ h ≤ 108) ∧ (-2400 ≤ v.shift ∧ v.shift ≤ 2400) ∧ (2048 ≤ v.ratio ∧ v.ratio ≤ 32768)

/-! ### The Shift Engine (R75 to R88, R91) -/

/-- A head's position is a ring index with a fraction, and its lag the distance behind the newest sample (R80, R81). -/
abbrev Head.Ok (w : Nat) (h : Head) : Prop :=
  h.whole < 4096 ∧ h.frac < 8192 ∧ ((w : Int) - h.whole - h.lag) % 4096 = 0

/-- A crossfade's fading head can be read, and its progress lies below its length (R77, R85, R87). -/
abbrev Crossfade.Ok (w : Nat) (f : Crossfade) : Prop :=
  f.fading.Ok w ∧ (1 ≤ f.fading.lag ∧ f.fading.lag ≤ 4095) ∧ (32 ≤ f.length ∧ f.length ≤ 512) ∧ f.progress < f.length

/-- The law of R77 and R85 for one channel: an active head exactly when it is not CLOSED, its lag within 96..1536, a fading
head only beside it; the level is 0 in CLOSED, 1 in OPEN and within 0..1 (R91). -/
def Channel.Ok (w : Nat) (c : Channel) : Bool :=
  decide ((c.active = none ↔ c.env = .closed) ∧ (c.active = none → c.fade = none) ∧
    (∀ a ∈ c.active, a.Ok w ∧ 96 ≤ a.lag ∧ a.lag ≤ 1536) ∧ (∀ f ∈ c.fade, f.Ok w) ∧
    (0 ≤ c.level ∧ c.level ≤ 1) ∧ (c.env = .closed → c.level = 0) ∧ (c.env = .open → c.level = 1) ∧
    (2048 ≤ c.ratio ∧ c.ratio ≤ 32768))

/-- The engine: the ring in its canonical form, the channels under their law, the shared values in range (R75, R77). -/
abbrev Engine.Ok (g : Engine) : Prop :=
  ringWf g.ring = true ∧ g.w < 4096 ∧ g.channels.toList.all (Channel.Ok g.w) ∧ (32 ≤ g.crossfade ∧ g.crossfade ≤ 512) ∧
    (1 ≤ g.attack ∧ g.attack ≤ 32) ∧ (1 ≤ g.release ∧ g.release ≤ 64)

/-- What keeps the engine under its law: its own state, and the ranges of what it takes from the scene, the tracker and the
planner (R71, R78, R83). -/
abbrev State.AudioOk (s : State) : Prop :=
  s.ScenesOk ∧ s.tracker.Ok ∧ s.planner.voices.All PlanVoice.Ok ∧ s.engine.Ok

/-! ### The port and the mixer (R76, R102 to R106, R113) -/

/-- The engine runs only on a PRESENT clock after the self-check; output samples wait only then; the ramp lies within 0..64
(R76, R101, R102, R103, R105, R113). -/
abbrev State.ClockOk (s : State) : Prop :=
  (s.engine.state = .running → s.port.clock = .present ∧ s.start.phase = .up) ∧
    (s.port.formed.isSome → s.engine.state = .running) ∧ s.port.qualifying < 2 ∧
    (s.port.clock = .present → s.port.qualifying = 0) ∧ s.mixer.ramp ≤ 64

/-! ### Follow and overlay (R119, R131) -/

/-- The origin names a bank and a slot of the store or of the overlay, or a cue's tag, in range (R119). -/
def OriginSource.Ok (o : OriginSource) : Bool :=
  match o with
  | .slot b i => b ≤ 7 && i ≤ 7
  | .overlay b i _ => b ≤ 7 && i ≤ 7
  | .cue t => 1 ≤ t && t ≤ 255
  | _ => true

/-- A Working Scene whose origin is OVERLAY and not detached names the mapped bank (R131). -/
def OriginSource.Attached (o : OriginSource) (mapped : Option Nat) : Bool :=
  match o with
  | .overlay b _ false => mapped = some b
  | _ => true

/-- The follow record is present only while the origin is OVERLAY, not detached, with its slot (R131). -/
abbrev State.FollowOk (s : State) : Prop :=
  s.working.origin.source.Attached s.overlay.mapped ∧
    (∀ f ∈ s.working.follow, s.working.origin.source.follows f.slot = true) ∧
    (∀ b ∈ s.overlay.mapped, b ≤ 7)

/-! ### The Cue Queue (R135, R136, R149) -/

/-- The trigger's count lies within 1..64 (R135). -/
def CueTrigger.Ok (t : CueTrigger) : Bool :=
  match t with
  | .beats n => 1 ≤ n && n ≤ 64
  | _ => true

/-- The queue: at most 16 cues of distinct tags, the head ARMED or LANDING and every other cue QUEUED, the counter 0 while it
is empty; at most 16 results (R135, R136, R149). -/
abbrev CueQueue.Ok (q : CueQueue) : Prop :=
  q.queue.length ≤ 16 ∧ (q.queue.map (·.tag)).Nodup ∧
    (∀ c ∈ q.queue, (1 ≤ c.tag ∧ c.tag ≤ 255) ∧ c.trigger.Ok ∧ c.deadline ≤ 64) ∧
    (∀ c ∈ q.queue.head?, c.state ≠ .queued) ∧ (∀ c ∈ q.queue.tail, c.state = .queued) ∧ q.counter ≤ 255 ∧
    (q.queue = [] → q.counter = 0) ∧ q.results.length ≤ 16

/-! ### The Scene Store (R154, R155, R157) -/

/-- Target, phase and progress of an operation lie in their ranges (R155, R158, R159). -/
def StoreWork.Ok (w : StoreWork) : Bool :=
  match w with
  | .program b i _ (.write n) => b ≤ 7 && i ≤ 7 && n ≤ 28
  | .program b i _ _ => b ≤ 7 && i ≤ 7
  | .erase b (.mark i) => b ≤ 7 && i ≤ 7
  | .erase b (.prewrite i n) => b ≤ 7 && i ≤ 7 && n ≤ 29
  | .erase b (.pulse n) => b ≤ 7 && 1 ≤ n && n ≤ 60

/-- The store's laws: at most one operation, and none in flight while the store is frozen, latched, without supply, or while
the overlay is ACTIVE (R157); none before the start-up is over (R155, R164); the table shows the headers, unless the store was
found unreadable and is latched (R154, R164); the time counted of a pulse lies within its length, and a write that awaits its
next pulse has had fewer than 12 (R158, R159). -/
abbrev State.StoreOk (s : State) : Prop :=
  (s.store.inFlight = true →
      s.store.latch = false ∧ s.store.frozen = false ∧ s.store.supplyHigh = true ∧ s.overlay.mapped = none) ∧
    (s.start.phase ≠ .up → s.store.op = none) ∧
    (s.store.table = s.store.array.map Slot.state ∨
      s.store.latch = true ∧ s.store.table = Vector.replicate 64 .incomplete) ∧
    ∀ o ∈ s.store.op, o.work.Ok ∧ o.elapsedMicros ≤ timerMicros ∧ o.pulses ≤ 12 ∧
      (∀ n ∈ o.pulseLength, o.pulseMicros ≤ n) ∧ (o.pulseLength = none → o.pulseMicros = 0) ∧
      (o.status = .inFlight → o.pulsing = false → o.pulses < 12)

/-! ### The link and the notices (R167, R169, R171 to R173, R175) -/

/-- The assembler holds fewer bytes than its frame has, and a legal length (R167). -/
def Assembler.Ok (a : Assembler) : Bool :=
  match a with
  | .body n stored => 2 ≤ n && n ≤ 250 && stored.length < n
  | _ => true

/-- The FIFO and the reply queue hold at most four entries each; before READY nothing is queued and no RESET is taken (R167,
R169, R171, R172, R173). -/
abbrev State.LinkOk (s : State) : Prop :=
  s.link.fifo.length ≤ 4 ∧ s.link.replies.length ≤ 4 ∧ s.link.assembler.Ok ∧
    (s.start.phase ≠ .up → s.link.replies = [] ∧ s.link.stopped = false)

/-- Levels and mask lie within 0..7, and no set holds a bit beyond its group's sources (R175, R179). -/
abbrev Notices.Ok (u : Notices) : Prop :=
  (∀ x ∈ u.levels.toList, x ≤ 7) ∧ u.mask ≤ 7 ∧ (∀ g : Fin 6, u.pending[g] &&& groupSources g = u.pending[g]) ∧
    ∀ g : Fin 6, u.enabledOf g &&& groupSources g = u.enabledOf g

/-- The state of the part meets every law above. -/
abbrev State.Safe (s : State) : Prop :=
  s.AudioOk ∧ s.key.Ok ∧ s.ClockOk ∧ s.FollowOk ∧ s.working.origin.source.Ok ∧ s.cues.Ok ∧ s.StoreOk ∧ s.LinkOk ∧
    s.notices.Ok

end Sys2Proof.Machine
end

