-- ==== Sys2Proof/Certificates/Slice0/Obligations.lean ====
section
/-! DEFINITION. What is claimed of the part: one definition for each obligation, and the words they are stated in. -/

namespace Sys2Proof.Machine

/-! ### The words of the statements -/

/-- The dispatch stage can take the entry `e`, and `rest` stays in the FIFO: the part is up, no RESET has been taken, the
reply queue has room, and `e` stands at the front (R169, R172, R173). -/
abbrev State.Takes (s : State) (e : FifoEntry) (rest : List FifoEntry) : Prop :=
  s.start.phase = .up ∧ s.link.stopped = false ∧ s.link.replies.length < 4 ∧ s.link.fifo = e :: rest

/-- The link once an entry has been taken and answered with one frame. -/
def Link.answered (l : Link) (rest : List FifoEntry) (f : ReplyFrame) : Link :=
  { l with fifo := rest, replies := l.replies ++ [f] }

/-- The reply frame to a request: its kind + 80h, its sequence, a code and a payload (R170). -/
def replyTo (kind seq : Byte) (c : ReplyCode) (payload : List Byte) : ReplyFrame :=
  { kind := kind + 0x80, seq := seq, code := some c.byte, payload := payload }

/-- The blocks of the state. -/
inductive Block where
  | tracker | key | planner | engine | port | mixer | working | overlay | cues | store | link | notices | start
  deriving DecidableEq, Repr

/-- Two states agree on a block. -/
def State.AgreesOn (s t : State) : Block → Prop
  | .tracker => t.tracker = s.tracker
  | .key => t.key = s.key
  | .planner => t.planner = s.planner
  | .engine => t.engine = s.engine
  | .port => t.port = s.port
  | .mixer => t.mixer = s.mixer
  | .working => t.working = s.working
  | .overlay => t.overlay = s.overlay
  | .cues => t.cues = s.cues
  | .store => t.store = s.store
  | .link => t.link = s.link
  | .notices => t.notices = s.notices
  | .start => t.start = s.start

/-- The blocks a command may change, read from its rules; a request also takes its entry and queues its reply (link). Two
entries are the model's choice: STORE STATUS, which by R163 changes no state, has store and notices for the time that passes
before it (log 7), and PHRASE START has the tracker, which holds the count of those that wait (log 8). -/
def mayChange : Instr → List Block
  | .powerOnReset _ | .pinReset _ | .softReset _ =>
    [.tracker, .key, .planner, .engine, .port, .mixer, .working, .overlay, .cues, .store, .link, .notices, .start]
  | .resetnRelease => [.port, .start]
  | .selfCheckEnd _ _ => [.tracker, .planner, .engine, .mixer, .store, .link, .notices, .start]
  | .sampleEvent _ | .frameCompletion _ => [.tracker, .planner, .engine, .port, .mixer, .working, .notices]
  | .phraseStart => [.tracker, .working, .cues, .notices]
  | .clockGapTimeout => [.port, .engine, .notices]
  | .measurementWindowEnd => [.tracker, .planner, .engine, .port, .mixer, .notices]
  | .frameClockEdge => [.port]
  | .receivedByte _ _ | .frameReceived _ | .receiveFault _ _ | .receiveGapTimeout => [.link, .notices]
  | .badFrame _ | .unknownKind _ _ _ | .transmitComplete | .reset _ _ => [.link]
  | .getStatus _ _ | .monitor _ _ | .readSetup _ _ | .readContext _ _ | .readWorkingScene _ _ | .listCues _ _
  | .readSlot _ _ | .overlayRead _ _ | .readNotices _ _ => [.link]
  | .storeStatus _ _ => [.store, .notices, .link]
  | .setEngineMode _ _ => [.mixer, .link]
  | .setTuning _ _ | .setTracker _ _ => [.tracker, .link]
  | .note _ _ | .notesClear _ _ => [.key, .notices, .link]
  | .setScale _ _ | .setTemplate _ _ | .setChordPolicy _ _ => [.key, .link]
  | .loadScene _ _ | .loadInlineScene _ _ => [.working, .cues, .notices, .link]
  | .editWorkingScene _ _ => [.working, .link]
  | .enqueueCue _ _ | .cancelCue _ _ | .clearCues _ _ => [.cues, .notices, .link]
  | .readCueResults _ _ => [.cues, .link]
  | .fire _ _ | .beat _ _ => [.working, .cues, .notices, .link]
  | .programSlot _ _ | .eraseBank _ _ | .freezeStore _ _ => [.store, .link]
  | .programmingVoltageReady _ | .storePulseVerify _ | .erasePulseVerify _ | .timerExpiry | .supplyLoss _ =>
    [.store, .notices]
  | .storeSupplyRestored => [.store]
  | .overlayOn _ _ | .overlayOff _ _ | .overlayWrite _ _ => [.overlay, .working, .link]
  | .clearNotices _ _ | .configureNotices _ _ => [.notices, .link]

/-- The frame a request row dispatches: its kind (9.5), its sequence, its payload. -/
def request? : Instr → Option (Byte × Byte × List Byte)
  | .getStatus q p => some (0x01, q, p)
  | .monitor q p => some (0x02, q, p)
  | .reset q p => some (0x03, q, p)
  | .setEngineMode q p => some (0x04, q, p)
  | .setTuning q p => some (0x10, q, p)
  | .setTracker q p => some (0x11, q, p)
  | .readSetup q p => some (0x12, q, p)
  | .note q p => some (0x20, q, p)
  | .notesClear q p => some (0x21, q, p)
  | .setScale q p => some (0x22, q, p)
  | .setTemplate q p => some (0x23, q, p)
  | .setChordPolicy q p => some (0x24, q, p)
  | .readContext q p => some (0x25, q, p)
  | .loadScene q p => some (0x30, q, p)
  | .loadInlineScene q p => some (0x31, q, p)
  | .editWorkingScene q p => some (0x32, q, p)
  | .readWorkingScene q p => some (0x33, q, p)
  | .enqueueCue q p => some (0x40, q, p)
  | .fire q p => some (0x41, q, p)
  | .cancelCue q p => some (0x42, q, p)
  | .clearCues q p => some (0x43, q, p)
  | .listCues q p => some (0x44, q, p)
  | .readCueResults q p => some (0x45, q, p)
  | .beat q p => some (0x46, q, p)
  | .readSlot q p => some (0x50, q, p)
  | .programSlot q p => some (0x51, q, p)
  | .eraseBank q p => some (0x52, q, p)
  | .storeStatus q p => some (0x53, q, p.bytes)
  | .freezeStore q p => some (0x54, q, p)
  | .overlayOn q p => some (0x58, q, p)
  | .overlayOff q p => some (0x59, q, p)
  | .overlayWrite q p => some (0x5A, q, p)
  | .overlayRead q p => some (0x5B, q, p)
  | .readNotices q p => some (0x60, q, p)
  | .clearNotices q p => some (0x61, q, p)
  | .configureNotices q p => some (0x62, q, p)
  | _ => none

/-- The payload lengths the catalogue gives a kind (9.5); ENQUEUE CUE's is checked against its source byte (R170). -/
def legalLength (kind : Byte) (p : List Byte) : Bool :=
  match kind.toNat with
  | 0x04 | 0x24 | 0x42 | 0x52 | 0x58 | 0x5B => p.length = 1
  | 0x10 | 0x20 | 0x30 | 0x50 | 0x61 => p.length = 2
  | 0x22 => p.length = 3
  | 0x23 | 0x32 => p.length = 4
  | 0x11 => p.length = 9
  | 0x62 => p.length = 11
  | 0x31 => p.length = 58
  | 0x5A => p.length = 59
  | 0x51 => p.length = 60
  | 0x40 => (p.length = 8 && byteAt p 1 ≠ 1) || (p.length = 66 && byteAt p 1 ≠ 0)
  | _ => p.length = 0

/-- The results list after cues have left the queue with one outcome, in queue order: the newest sixteen entries, an entry's
overflow mark set where it joined a list of sixteen (R149). -/
def expectedResults (rs : List CueResult) (counter : Nat) (o : CueOutcome) (cs : List Cue) : List CueResult :=
  (rs ++ cs.mapIdx fun k c =>
      (⟨c.tag, o, c.state, if c.state = .queued then 0 else counter, 16 ≤ rs.length + k⟩ : CueResult)).drop
    (rs.length + cs.length - 16)

/-- The Notice Unit after so many cues have left the queue: the source of their outcome, and RESULTS OVERFLOW where the list
overflowed (R149, R151). -/
def noticesAfter (u : Notices) (src : Source) (listed leaving : Nat) : Notices :=
  let u1 := if leaving = 0 then u else u.raise src
  if 16 < listed + leaving ∧ leaving ≠ 0 then u1.raise .resultsOverflow else u1

/-- The queue once its head has left: the next cue is armed with counter 0 (R137). -/
def armedRest (rest : List Cue) : List Cue :=
  match rest with
  | [] => []
  | c :: cs => { c with state := .armed } :: cs

/-- The state once the head `c` has landed with `how`, its counter being `n` (R139). -/
def State.landed (s : State) (c : Cue) (rest : List Cue) (n : Nat) (how : How) : State :=
  { s with
    working := { scene := c.scene, origin := ⟨.cue c.tag, false⟩, follow := none }
    cues := { queue := armedRest rest, counter := 0, results := expectedResults s.cues.results n (.landed how) [c] }
    notices := noticesAfter s.notices .cueLanded s.cues.results.length 1 }

/-- The state with the link answered: the last thing every request does. -/
def State.answered (s : State) (rest : List FifoEntry) (f : ReplyFrame) : State := { s with link := s.link.answered rest f }

/-- Feed bytes that arrive without error, one RECEIVED_BYTE after the other. -/
def receiveBytes (bytes : List Byte) (s : State) : State :=
  bytes.foldl (fun s b => match exec (.receivedByte b false) s with
    | .next t => t
    | _ => s) s

/-- An entry offered to the FIFO: it joins at the back, or is dropped with LINK OVERRUN where four stand there (R169). -/
def State.offered (s : State) (e : FifoEntry) : State :=
  if s.link.fifo.length < 4 then { s with link := { s.link with assembler := .hunt, fifo := s.link.fifo ++ [e] } }
  else { s with link := { s.link with assembler := .hunt }, notices := s.notices.raise .linkOverrun }

/-- The tracker's running state after a reset or a clock return, under settings and a reference that are kept (R20, R22). -/
def restartedTracker (c : TrackerSettings) (fRef : Nat) (awaiting : Nat) : Tracker :=
  { settings := c, fRef := fRef, window := List.replicate 1024 0, framePos := 0, state := .silent, onsetCount := 0,
    holdCount := 0, silenceCount := 0, betweenPhrases := true, held := none, jumpPending := none, lastAccepted := none,
    record := { state := .silent, level := -96, q := 0, t16 := (768000 + c.highHz - 1) / c.highHz, held := none,
                lastAccepted := none, event := .none },
    phraseStartsAwaiting := awaiting }

/-- The engine as R98 leaves it, in a given state, under a scene. -/
def restartedEngine (st : EngineState) (sc : Scene) : Engine :=
  { state := st, ring := [], w := 0, channels := Four.all ({ env := .closed, level := 0, active := none, fade := none, ratio := 8192, command := .close } : Channel), crossfade := sc.crossfade,
    attack := sc.attack, release := sc.release }

/-- The planner as R74 leaves it. -/
def restartedPlanner : Planner := ⟨none, Four.all ⟨none, 0, 0, 8192, false, false, .close⟩⟩

/-- The audio blocks restarted at the clock's return (R22, R74, R98, R114). -/
def State.restarted (s : State) : State :=
  { s with
    tracker := restartedTracker s.tracker.settings s.tracker.fRef s.tracker.phraseStartsAwaiting
    planner := restartedPlanner
    engine := restartedEngine .running s.working.scene
    mixer := { mode := s.mixer.mode, ramp := if s.mixer.mode = .run then 64 else 0, clip := false,
               dry := coeffs s.working.scene.dryGain s.working.scene.dryPan,
               voices := s.working.scene.voices.map fun v => coeffs v.gain v.pan } }

/-- The Notice Unit once each source whose condition holds has been raised. -/
def Notices.raised (u : Notices) (cs : List (Bool × Source)) : Notices := cs.foldl (fun u c => if c.1 then u.raise c.2 else u) u

/-- The planning view a key unit publishes under a scene, which is also the key it reports (R37, R39, R42): the chord's root
and scale index where the key source is CHORD and there is a chord, else the scene's; the scale set of that index; the context;
and the chord tones, the intervals of the entry shifted up by the root, wherever there is a chord. -/
def KeyContext.Publishes (k : KeyContext) (sc : Scene) (v : PlanningView) : Prop :=
  v.context = k.context ∧
    (sc.keySource = .scene ∨ k.context = .none →
      v.fromChord = false ∧ v.tonic = sc.tonic ∧ v.scaleIndex = sc.scaleIndex) ∧
    (∀ h : v.scaleIndex < 16, v.scaleSet = k.scales[v.scaleIndex]) ∧ (k.context = .none → v.chordTones = none) ∧
    ∀ (r t : Nat) (h : t < 12), k.context = .active r t ∨ k.context = .latched r t →
      (sc.keySource = .chord → v.fromChord = true ∧ v.tonic = r ∧ v.scaleIndex = k.templates[t].scaleIndex) ∧
        ∃ tones : PitchSet, v.chordTones = some tones ∧ ∀ c, c < 12 →
          (tones.getLsbD c = true ↔ ∃ i, i < 12 ∧ k.templates[t].intervals.getLsbD i = true ∧ c = (i + r) % 12)

/-- The microseconds counted of a stretch on an operation: the stretch, up to the end of the pulse in progress, 120 µs or, for
an erase pulse, 10.5 ms long with its verify (R158, R159, log 7). -/
def StoreOp.counted (o : StoreOp) (stretch : Nat) : Nat :=
  match o.work with
  | .erase _ (.pulse _) => min stretch (10500 - o.pulseMicros)
  | _ => if o.pulsing then min stretch (120 - o.pulseMicros) else stretch

/-- The state once the operation `o` has ended FAILED: no pulse is in progress, the latch is set, STORE FAILED is raised, and
STORE FAULT where the latch was clear (R160, R161). -/
def State.abandoned (s : State) (o : StoreOp) (c : FailureCause) (supplyHigh : Bool) (elapsed : Nat) : State :=
  { s with
    store := { s.store with
      op := some { work := o.work, status := .failed c, elapsedMicros := elapsed, pulses := o.pulses, pulsing := false,
                   pulseMicros := 0 }
      latch := true, supplyHigh := supplyHigh }
    notices := if s.store.latch then s.notices.raise .storeFailed else (s.notices.raise .storeFailed).raise .storeFault }

/-- The state once a stretch before a STORE STATUS has been counted: an operation in flight is so much older, and abandoned
where its time has come (R155, R160, log 7). -/
def State.atStatus (s : State) (stretch : Nat) : State :=
  match s.store.op with
  | none => s
  | some o =>
    let d := o.counted stretch
    let inPulse : Bool := o.pulsing || (match o.work with | .erase _ (.pulse _) => true | _ => false)
    if o.status ≠ .inFlight then s
    else if 1500000 ≤ o.elapsedMicros + d then s.abandoned o .timer s.store.supplyHigh 1500000
    else { s with store := { s.store with op := some { o with
      elapsedMicros := o.elapsedMicros + d, pulseMicros := if inPulse then o.pulseMicros + d else o.pulseMicros } } }

end Sys2Proof.Machine

open Sys2Proof Sys2Proof.Machine

/-! ### The queue of commands -/

/-- A step takes the command at the front of the queue; on an empty queue the part idles (log 2). -/
def Obligations.StepRunsTheFrontCommand : Prop :=
  (∀ (c : Instr) (rest : List Instr) (s : State), s.pending = c :: rest → step s = exec c { s with pending := rest }) ∧
    ∀ s : State, s.pending = [] → step s = .next s

/-- Every command answers a next state, leaves the queue of commands alone, and changes no block that mayChange does not list
for it: those its rules name and, by the model's choice, store and notices for STORE STATUS (log 7) and the tracker for PHRASE
START (log 8). -/
def Obligations.CommandsChangeOnlyTheirBlocks : Prop :=
  ∀ (c : Instr) (s : State), ∃ t, exec c s = .next t ∧ t.pending = s.pending ∧ ∀ b, b ∉ mayChange c → s.AgreesOn t b

/-! ### Resets and start-up -/

/-- The values of the blocks after a reset, as the rules give them; the store's content, its supply sense and the strap are
the model's choices (logs 3 and 4) and are left out. The model's count of PHRASE STARTs that await the queue starts at 0 and
its mark of an open gap clear (logs 8, 13), no samples wait or are being sent (log 26), and the record's T16 is log 14. -/
def Obligations.ResetValues : Prop :=
  let s := State.reset
  s.tracker = restartedTracker ⟨80, 1000, -50, 70, 50, 6, 30⟩ 4400 0 ∧ s.tracker.record.t16 = 768 ∧
    (s.key.notes = [] ∧ s.key.context = .none ∧ s.key.policy = .latch) ∧
    s.key.scales.toList.map (fun x => (List.range 12).filter x.getLsbD) =
      [[0, 2, 4, 5, 7, 9, 11], [0, 2, 3, 5, 7, 8, 10], [0, 2, 3, 5, 7, 8, 11], [0, 2, 3, 5, 7, 9, 11],
        [0, 2, 3, 5, 7, 9, 10], [0, 2, 4, 5, 7, 9, 10], [0, 2, 4, 6, 7, 9, 11], [0, 1, 3, 5, 7, 8, 10], [0, 2, 4, 7, 9],
        [0, 3, 5, 7, 10], [0, 3, 5, 6, 7, 10], [0, 2, 4, 6, 8, 10], [0, 1, 2, 3, 4, 5, 6, 7, 8, 9, 10, 11],
        [0, 2, 4, 5, 7, 9, 11], [0, 2, 4, 5, 7, 9, 11], [0, 2, 4, 5, 7, 9, 11]] ∧
    s.key.templates.toList.map (fun x => ((List.range 12).filter x.intervals.getLsbD, x.scaleIndex)) =
      [([0, 4, 7], 0), ([0, 3, 7], 1), ([0, 4, 7, 10], 5), ([0, 3, 7, 10], 4), ([0, 4, 7, 11], 0), ([0, 5, 7], 5),
        ([0, 2, 7], 0), ([0, 3, 6], 2), ([0, 4, 8], 11), ([0, 3, 6, 10], 7), ([0, 7], 0), ([0, 4, 7, 9], 0)] ∧
    s.planner = restartedPlanner ∧ (∀ i, ringRead s.engine.ring i = 0) ∧
    s.engine = { restartedEngine (.stalled .clock) defaultScene with crossfade := 128, attack := 2, release := 8 } ∧
    s.port = ⟨.absent, 0, 0, 0, false, false, none, ⟨0, 0, 0, 0⟩⟩ ∧
    s.mixer = ⟨.run, 64, false, ⟨16384, 11585, 11585⟩, Four.all (⟨8211, 11585, 11585⟩ : Coeffs)⟩ ∧
    s.working = ⟨⟨[0x44, 0x45, 0x46, 0x41, 0x55, 0x4C, 0x54, 0x20, 0x20, 0x20, 0x20, 0x20], 0, 0, .scene, 100, 15, 0, 128,
      true, .atVoiced, 0, 0, 2, 8, Four.all (⟨.off, 0, 48, 84, 0, -12, 0, .mute⟩ : VoiceRule)⟩, ⟨.default, false⟩, none⟩ ∧
    (s.overlay.mapped = none ∧ s.overlay.ram.toList = List.replicate 8 none) ∧
    s.cues = ⟨[], 0, []⟩ ∧
    (s.store.table = s.store.array.map Slot.state ∧ s.store.op = none ∧ s.store.latch = false ∧ s.store.frozen = false) ∧
    (s.link.assembler = .hunt ∧ s.link.fifo = [] ∧ s.link.replies = [] ∧ s.link.stopped = false) ∧
    (s.notices.pending.toList = List.replicate 6 0 ∧ s.notices.enabled.toList = List.replicate 5 0 ∧
      s.notices.levels.toList = List.replicate 5 0 ∧ s.notices.mask = 0 ∧ s.notices.attnLow = false) ∧
    s.start = ⟨.selfCheck, .powerOn⟩

/-- The state after reset meets every law of Safety.lean. -/
def Obligations.ResetIsSafe : Prop := State.reset.Safe

/-- Power-on and pin reset leave every block at its reset value, keep the store's slots and its supply sense, scan the slot
headers and read the strap; a power-on taken while RESETn is held low leaves the part held (log 10). That the scan is done
with the reset is log 20. The model's choice are also that the samples that wait or are being sent are dropped (log 26), the
count of waiting PHRASE STARTs at 0 (log 8), no gap open (log 13), a pin reset's values and strap at the fall of RESETn (log 28),
and a pin reset taken again while RESETn is held low (log 29). -/
def Obligations.PowerOnAndPinResets : Prop :=
  ∀ (high : Bool) (s : State),
    let blocks : State := { State.reset with
      store := { array := s.store.array, table := s.store.array.map Slot.state, op := none, latch := false, frozen := false,
                 supplyHigh := s.store.supplyHigh }
      link := { State.reset.link with highRate := high }
      pending := s.pending }
    exec (.powerOnReset high) s =
        .next { blocks with start := ⟨if s.start.phase = .pinHeld then .pinHeld else .selfCheck, .powerOn⟩ } ∧
      exec (.pinReset high) s = .next { blocks with start := ⟨.pinHeld, .pin⟩ }

/-- The rise of RESETn starts a measurement window and the self-check; the soft reset, taken once a RESET's OK has been
sent, keeps the setup and resets everything else. The soft reset as a command of its own is the model's (log 10); so are the
count of waiting PHRASE STARTs at 0 after it (log 8), no gap open at the rise (log 13), the samples it drops (log 26), and that
the rise gives the blocks no values anew (log 28). -/
def Obligations.ResetnReleaseAndSoftReset : Prop :=
  (∀ s : State, s.start.phase = .pinHeld →
      exec .resetnRelease s = .next { s with
        start := { s.start with phase := .selfCheck }
        port := { s.port with windowCount := 0, windowGap := false, gapOpen := false } }) ∧
    ∀ (high : Bool) (s : State), s.start.phase = .up → s.link.stopped = true → s.link.replies = [] →
      exec (.softReset high) s = .next { State.reset with
        tracker := restartedTracker s.tracker.settings s.tracker.fRef 0
        key := { s.key with notes := [], context := .none }
        store := { array := s.store.array, table := s.store.array.map Slot.state, op := none, latch := false,
                   frozen := false, supplyHigh := s.store.supplyHigh }
        link := { State.reset.link with highRate := high }
        start := ⟨.selfCheck, .soft⟩
        pending := s.pending }

/-- The end of the self-check: the engine's state by the RAM's result and the clock, the store's mark where it was found
unreadable, READY queued with kind, code and counts, and dispatch begun. That an unreadable store becomes known here is log
20; a count of PHRASE STARTs that await the Cue Queue is kept (log 8). -/
def Obligations.SelfCheckEnds : Prop :=
  ∀ (ramFault unreadable : Bool) (s : State), s.start.phase = .selfCheck →
    let store := if unreadable then { s.store with table := Vector.replicate 64 .incomplete, latch := true } else s.store
    let valid := store.table.toList.countP (· = .valid)
    let blank := store.table.toList.countP (· = .blank)
    let incomplete := store.table.toList.countP (· = .incomplete)
    let code : Byte := if ramFault then 0x02 else if unreadable then 0x04 else if incomplete ≠ 0 then 0x03 else 0x01
    let ready : ReplyFrame :=
      { kind := 0xF0, seq := 0x00, code := none,
        payload := [match s.start.kind with
          | .powerOn => 0
          | .pin => 1
          | .soft => 2, code, byteOfNat valid, byteOfNat blank, byteOfNat incomplete] }
    let audio : State :=
      if ramFault then { s with engine := { s.engine with ring := [], state := .stalled .ramFault } }
      else if s.port.clock = .present then s.restarted
      else { s with engine := { s.engine with ring := [], state := .stalled .clock } }
    exec (.selfCheckEnd ramFault unreadable) s = .next { audio with
      store := store
      notices := if unreadable then s.notices.raise .storeFault else s.notices
      link := { s.link with replies := s.link.replies ++ [ready] }
      start := { s.start with phase := .up } }

/-! ### Sample events and the tracker -/

/-- While the engine runs, a sample event before the last of a frame writes the ring, runs the four channels and the mixer,
forms the outputs and changes nothing else; while it is STALLED there is none. -/
def Obligations.SampleEventsRun : Prop :=
  (∀ (x : Sample) (s : State), s.engine.state = .running → s.tracker.framePos < 255 → ringWf s.engine.ring = true →
      ∃ t, exec (.sampleEvent x) s = .next t ∧
        t.tracker = { s.tracker with
          window := (x :: s.tracker.window).take 1024, framePos := s.tracker.framePos + 1 } ∧
        (let w := (s.engine.w + 1) % 4096
         let run := fun (c : Channel) => c.sample (s.tracker.framePos = 0) t.engine.ring w
           (splicePeriod s.tracker.record.lastAccepted) s.engine.crossfade s.engine.attack s.engine.release
         let mixed := s.mixer.sample x.toInt (s.engine.channels.map fun c => (run c).signal)
         (∀ i, ringRead t.engine.ring i = if i = w then x else ringRead s.engine.ring i) ∧
           t.engine = { s.engine with
             ring := t.engine.ring, w := w, channels := s.engine.channels.map fun c => (run c).channel } ∧
           t.mixer = mixed.mixer ∧ t.port = { s.port with formed := some mixed.out } ∧
           t.notices = s.notices.raised
             [(s.engine.channels.toList.any fun c => (run c).cut, .shortCrossfade), (mixed.clip, .clip)]) ∧
        t = { s with tracker := t.tracker, engine := t.engine, mixer := t.mixer, port := t.port, notices := t.notices }) ∧
    ∀ (x : Sample) (s : State), s.engine.state ≠ .running →
      exec (.sampleEvent x) s = .next s ∧ exec (.frameCompletion x) s = .next s

/-- The sample event that wraps the frame position is the frame completion. The sample's own work comes first, as at any other
sample event; then tracker, follow, planning view and planner, hand-off and take-up, and the clip mark. Five notices can be
raised: SHORT CROSSFADE, CLIP, PHRASE START, PHRASE END and OUT OF REACH. SAMPLE_EVENT and FRAME_COMPLETION are one event there
(log 5). -/
def Obligations.FrameCompletionsRun : Prop :=
  ∀ (x : Sample) (s : State), s.engine.state = .running → s.tracker.framePos = 255 →
    ∃ t view, exec (.frameCompletion x) s = .next t ∧ exec (.sampleEvent x) s = .next t ∧
      (let u := { s.tracker with window := (x :: s.tracker.window).take 1024, framePos := 0 }
       t.tracker = u.takeFrame (measure u.window u.settings.tLo u.settings.tHi)) ∧
      t.working = (match s.working.follow with
        | some f => { scene := f.scene, origin := { s.working.origin with edited := false }, follow := none }
        | none => s.working) ∧
      s.key.Publishes t.working.scene view ∧
      (let w := (s.engine.w + 1) % 4096
       let run := fun (c : Channel) => c.sample false t.engine.ring w (splicePeriod s.tracker.record.lastAccepted)
         s.engine.crossfade s.engine.attack s.engine.release
       let mixed := s.mixer.sample x.toInt (s.engine.channels.map fun c => (run c).signal)
       (ringWf s.engine.ring = true →
           ∀ i, ringRead t.engine.ring i = if i = w then x else ringRead s.engine.ring i) ∧
         t.planner = s.planner.completeFrame t.tracker.record view t.working.scene s.mixer.mode
           (s.engine.channels.map fun c => (run c).channel.env) ∧
         t.engine =
           { state := .running, ring := t.engine.ring, w := w
             channels := s.engine.channels.map2
               (fun c v => { (run c).channel with ratio := v.ratio, command := v.command }) t.planner.voices
             crossfade := t.working.scene.crossfade, attack := t.working.scene.attack
             release := t.working.scene.release } ∧
         t.mixer =
           { mode := s.mixer.mode, ramp := mixed.mixer.ramp, clip := false
             dry := coeffs t.working.scene.dryGain t.working.scene.dryPan
             voices := t.working.scene.voices.map fun v => coeffs v.gain v.pan } ∧
         t.port = { s.port with formed := some mixed.out } ∧
         t.notices = s.notices.raised
           [(s.engine.channels.toList.any fun c => (run c).cut, .shortCrossfade), (mixed.clip, .clip),
             (decide (t.tracker.record.event = .phraseStart), .phraseStart),
             (decide (t.tracker.record.event = .phraseEnd), .phraseEnd),
             (t.planner.voices.toList.any fun v => v.outOfReach, .outOfReach)]) ∧
      t = { s with tracker := t.tracker, working := t.working, planner := t.planner, engine := t.engine, mixer := t.mixer,
                   port := t.port, notices := t.notices }

/-- The transition of a frame completion, from each of the five voicing states. -/
def Obligations.VoicingTransitions : Prop :=
  ∀ (t : Tracker) (m : Measures),
    let r := t.takeFrame m
    let loud := t.settings.gate ≤ m.level
    let byLevel : Voicing := if loud then .unvoiced else .silent
    ((t.state = .silent ∨ t.state = .unvoiced) →
        (¬loud → r.state = .silent) ∧ (loud → t.settings.qOn ≤ m.q → r.state = .onset ∧ r.onsetCount = 1) ∧
          (loud → m.q < t.settings.qOn → r.state = .unvoiced)) ∧
      (t.state = .onset →
        (¬loud → r.state = .silent ∧ r.onsetCount = 0) ∧
          (loud → t.settings.qOn ≤ m.q → t.onsetCount + 1 = 3 → r.state = .voiced ∧ r.onsetCount = 0) ∧
          (loud → t.settings.qOn ≤ m.q → t.onsetCount + 1 ≠ 3 → r.state = .onset ∧ r.onsetCount = t.onsetCount + 1) ∧
          (loud → m.q < t.settings.qOn → t.settings.qOff ≤ m.q → r.state = .onset ∧ r.onsetCount = t.onsetCount) ∧
          (loud → m.q < t.settings.qOn → m.q < t.settings.qOff → r.state = .unvoiced ∧ r.onsetCount = 0)) ∧
      (t.state = .voiced →
        (loud → t.settings.qOff ≤ m.q → r.state = .voiced) ∧
          (¬loud ∨ m.q < t.settings.qOff →
            if 1 ≤ t.settings.hold then r.state = .release ∧ r.holdCount = t.settings.hold else r.state = byLevel)) ∧
      (t.state = .release → 1 ≤ t.holdCount →
        (loud → t.settings.qOn ≤ m.q → r.state = .voiced ∧ r.holdCount = 0) ∧
          (¬loud ∨ m.q < t.settings.qOn → r.holdCount = t.holdCount - 1 ∧
            r.state = if t.holdCount = 1 then byLevel else .release))

/-- The octave-jump guard, the held pitch and the last accepted period at a frame completion. -/
def Obligations.HeldPitchAndGuard : Prop :=
  ∀ (t : Tracker) (m : Measures),
    let r := t.takeFrame m
    let p := pitchOf m.t16 t.fRef
    let accepted := r.held = some p ∧ r.lastAccepted = some m.t16
    let kept := r.held = t.held ∧ r.lastAccepted = t.lastAccepted
    let confirmed := ∃ x, t.jumpPending = some x ∧ (p - x).natAbs ≤ 100
    let jump := ∃ x, t.held = some x ∧ 700 < (p - x).natAbs
    (t.state = .voiced → r.state = .voiced →
        (confirmed → accepted ∧ r.jumpPending = none) ∧ (¬confirmed → jump → kept ∧ r.jumpPending = some p) ∧
          (¬confirmed → ¬jump → accepted ∧ r.jumpPending = none)) ∧
      (t.state = .voiced → r.state ≠ .voiced → r.jumpPending = none) ∧
      (r.state = .onset → accepted) ∧ (t.state ≠ .voiced → r.state = .voiced → accepted) ∧
      (r.state = .release ∨ r.state = .unvoiced → kept) ∧
      (r.state = .silent → r.held = none ∧ r.lastAccepted = t.lastAccepted) ∧
      r.record = { state := r.state, level := m.level, q := m.q, t16 := m.t16, held := r.held,
                   lastAccepted := r.lastAccepted, event := r.record.event } ∧
      (r.settings = t.settings ∧ r.fRef = t.fRef ∧ r.window = t.window ∧ r.framePos = t.framePos)

/-- The silence count, PHRASE END and PHRASE START at a frame completion. The count of PHRASE STARTs that await the Cue Queue is
the model's (log 8). -/
def Obligations.SilenceAndPhrases : Prop :=
  ∀ (t : Tracker) (m : Measures),
    let r := t.takeFrame m
    let ends := r.state = .silent ∧ t.betweenPhrases = false ∧ t.settings.phraseGap ≤ r.silenceCount
    let starts := r.state = .onset ∧ (t.state = .silent ∨ t.state = .unvoiced) ∧ t.betweenPhrases = true
    (r.state = .silent → t.silenceCount ≤ 255 → r.silenceCount = min 255 (t.silenceCount + 1)) ∧
      (r.state ≠ .silent → r.silenceCount = 0) ∧
      (ends → r.betweenPhrases = true ∧ r.record.event = .phraseEnd) ∧
      (starts → r.betweenPhrases = false ∧ r.record.event = .phraseStart ∧
        r.phraseStartsAwaiting = t.phraseStartsAwaiting + 1) ∧
      (¬ends → ¬starts → r.betweenPhrases = t.betweenPhrases ∧ r.record.event = .none) ∧
      (¬starts → r.phraseStartsAwaiting = t.phraseStartsAwaiting)

/-- The level is the rounding of the manual's logarithm, floored at -96, and the three measures of a frame are put together as
the manual says: level and confidence from their energies and the chosen lag, the search range from the settings, and the
period from the parabola through the three correlations around that lag. With `sum` the sum of the squares,
`l - 1/2 ≤ 10 log10 (sum / 2 ^ 54)` reads `2 ^ 1080 ≤ sum ^ 20 * 10 ^ (1 - 2 l)`. -/
def Obligations.LevelAndPeriodMeasures : Prop :=
  (∀ window : List Sample,
      let sum := energy (newest window)
      let l := levelOf sum
      sum ≤ 2 ^ 54 ∧ (-96 ≤ l ∧ l ≤ 0) ∧ (-96 < l → 2 ^ 1080 ≤ sum ^ 20 * 10 ^ (1 - 2 * l).toNat) ∧
        (l < 0 → sum ^ 20 * 10 ^ (-1 - 2 * l).toNat < 2 ^ 1080)) ∧
    (∀ xs ys : List Sample, energy xs = (xs.map fun x => x.toInt.natAbs ^ 2).sum ∧
      product xs ys = ((xs.zip ys).map fun p => p.1.toInt * p.2.toInt).sum) ∧
    ∀ (window : List Sample) (c : TrackerSettings), c.Ok →
      let m := measure window c.tLo c.tHi
      let new := window.take 256
      let old := fun (lag : Nat) => (window.drop lag).take 256
      let p := peak window (energy new) (c.tLo / 16) ((c.tHi + 15) / 16)
      let r : Nat → ℝ := fun lag =>
        if energy new = 0 ∨ energy (old lag) = 0 then 0 else product new (old lag) / √(energy new * energy (old lag))
      let d := r (p.1 - 1) - 2 * r p.1 + r (p.1 + 1)
      let δ := if d < 0 then max (-1 / 2) (min (1 / 2) ((r (p.1 - 1) - r (p.1 + 1)) / (2 * d))) else 0
      ((768000 ≤ c.tLo * c.highHz ∧ (c.tLo - 1) * c.highHz < 768000) ∧
          (c.tHi * c.lowHz ≤ 768000 ∧ 768000 < (c.tHi + 1) * c.lowHz) ∧ 549 ≤ c.tLo ∧ c.tHi ≤ 10971) ∧
        (m.level = levelOf (energy new) ∧ m.q = confidenceOf (energy new) p.2) ∧
        (m.t16 : ℤ) = max (c.tLo : ℤ) (min (c.tHi : ℤ) ⌊16 * ((p.1 : ℝ) + δ) + 1 / 2⌋) ∧ c.tLo ≤ m.t16 ∧ m.t16 ≤ c.tHi

/-- The chosen lag is the smallest of those with the highest correlation, every correlation lies in -1..1, and the confidence
is the percentage of the chosen one, rounded, in 0..100. It is said twice: of `r`, the manual's quotient over the real numbers,
and of the model's exact form of it, `num / sqrt (energy0 * energy)`, by squares. -/
def Obligations.PeakAndConfidence : Prop :=
  ∀ (window : List Sample) (lagA lagB : Nat), lagA ≤ lagB →
    let e0 := energy (newest window)
    let p := peak window e0 lagA lagB
    let new := window.take 256
    let old := fun (lag : Nat) => (window.drop lag).take 256
    let r : Nat → ℝ := fun lag =>
      if energy new = 0 ∨ energy (old lag) = 0 then 0 else product new (old lag) / √(energy new * energy (old lag))
    ((∀ lag, lagA ≤ lag → lag ≤ lagB → r lag ≤ r p.1 ∧ (lag < p.1 → r lag < r p.1)) ∧ (∀ lag, -1 ≤ r lag ∧ r lag ≤ 1) ∧
        (confidenceOf e0 p.2 : ℤ) = if 0 < r p.1 then ⌊100 * r p.1 + 1 / 2⌋ else 0) ∧
      (lagA ≤ p.1 ∧ p.1 ≤ lagB ∧ p.2 = corrAt window e0 p.1) ∧
      (∀ lag, lagA ≤ lag → lag ≤ lagB → p.2.lt (corrAt window e0 lag) = false ∧
        (lag < p.1 → (corrAt window e0 lag).lt p.2 = true)) ∧
      (∀ lag, (corrAt window e0 lag).num.natAbs ^ 2 ≤ e0 * (corrAt window e0 lag).energy) ∧
      confidenceOf e0 p.2 ≤ 100 ∧ (p.2.num ≤ 0 → confidenceOf e0 p.2 = 0) ∧
      (0 < p.2.num →
        (2 * confidenceOf e0 p.2 - 1) ^ 2 * (e0 * p.2.energy) ≤ 40000 * p.2.num.natAbs ^ 2 ∧
          40000 * p.2.num.natAbs ^ 2 < (2 * confidenceOf e0 p.2 + 1) ^ 2 * (e0 * p.2.energy))

/-- The frame pitch lies in 3618..9004 for every permitted setting, and is the rounding of the manual's logarithm: with
`k = P - 6900`, `k - 1/2 ≤ 1200 log2 (7680000 / (T16 * f_ref)) < k + 1/2`. -/
def Obligations.PitchRoundsInRange : Prop :=
  ∀ t16 fRef : Nat, PeriodOk t16 → 4150 ≤ fRef → fRef ≤ 4660 →
    let k := pitchOf t16 fRef - 6900
    (3618 ≤ pitchOf t16 fRef ∧ pitchOf t16 fRef ≤ 9004) ∧
      2 ^ (8000 + 2 * k - 1).toNat * (t16 * fRef) ^ 2400 ≤ 2 ^ 8000 * 7680000 ^ 2400 ∧
      2 ^ 8000 * 7680000 ^ 2400 < 2 ^ (8000 + 2 * k + 1).toNat * (t16 * fRef) ^ 2400

/-! ### The planner -/

/-- The lead note with its hysteresis; when a note belongs to a key, its class counted from the tonic being in the set; and the
snapped note: the nearest member of the key, the lower of two. -/
def Obligations.LeadNoteAndSnap : Prop :=
  (∀ (prev : Option Int) (p : Int) (hyst : Nat),
      let n := leadNote prev p hyst
      (∀ n0, prev = some n0 → (p - 100 * n0).natAbs ≤ 50 + hyst → n = n0) ∧
        ((∀ n0, prev = some n0 → 50 + hyst < (p - 100 * n0).natAbs) → n = (p + 50) / 100 ∧ -50 ≤ p - 100 * n ∧ p - 100 * n ≤ 49) ∧
        (hyst ≤ 40 → -90 ≤ p - 100 * n ∧ p - 100 * n ≤ 90)) ∧
    (∀ (tonic : Nat) (set : PitchSet) (m : Int), inKey tonic set m = true ↔ set.getLsbD ((m - tonic) % 12).toNat = true) ∧
    ∀ (tonic : Nat) (set : PitchSet) (n : Int), set.getLsbD 0 = true →
      let q := snap tonic set n
      inKey tonic set q = true ∧ (inKey tonic set n = true → q = n) ∧ (-5 ≤ n - q ∧ n - q ≤ 6) ∧
        ∀ m, inKey tonic set m = true → (n - q).natAbs ≤ (n - m).natAbs ∧ ((n - q).natAbs = (n - m).natAbs → q ≤ m)

/-- A walk of `count` steps over the classes of a set ends on a member and passes `count` members, its end included; and each
mode's note before the fold. -/
def Obligations.VoiceModeNotes : Prop :=
  (∀ (tonic : Nat) (set : PitchSet) (count : Nat) (n : Int), (∃ c, c < 12 ∧ set.getLsbD c = true) →
      let up := walk (inKey tonic set) true count n
      let down := walk (inKey tonic set) false count n
      (0 < count → inKey tonic set up = true ∧ inKey tonic set down = true) ∧ n ≤ up ∧ down ≤ n ∧
        (List.range (up - n).toNat).countP (fun (j : Nat) => inKey tonic set (n + 1 + j)) = count ∧
        (List.range (n - down).toNat).countP (fun (j : Nat) => inKey tonic set (n - 1 - j)) = count) ∧
    ∀ (l : Lead) (v : VoiceRule),
      let key := inKey l.view.tonic l.view.scaleSet
      let offset := l.note - l.snapped
      (v.mode = .off → modeNote l v = none) ∧
        (v.mode = .scale → modeNote l v = some (walk key (0 < v.amount) v.amount.natAbs l.snapped + offset)) ∧
        (∀ tones, v.mode = .chord → l.view.chordTones = some tones →
          modeNote l v = some (walk (inKey 0 tones) (0 < v.amount) v.amount.natAbs l.snapped + offset)) ∧
        (v.mode = .chord → l.view.chordTones = none →
          modeNote l v = some (walk key (0 < v.amount) (2 * v.amount.natAbs) l.snapped + offset)) ∧
        (v.mode = .semitone → modeNote l v = some (l.note + v.amount)) ∧ (v.mode = .drone → modeNote l v = some v.amount)

/-- The fold: by whole octaves into the range, to the octave nearest the end it came from. -/
def Obligations.FoldIntoTheRange : Prop :=
  ∀ (low high : Nat) (h : Int), low + 12 ≤ high →
    let f := fold low high h
    ((low : Int) ≤ f ∧ f ≤ high) ∧ (f - h) % 12 = 0 ∧ ((low : Int) ≤ h → h ≤ high → f = h) ∧
      ((high : Int) < h → (high : Int) - 12 < f) ∧ (h < low → f < (low : Int) + 12)

/-- Collision resolution. A voice keeps its folded note where the flag is off, where no earlier voice plans that note, or where
it is fixed; a movable voice that finds it taken moves once, then twice, to the next member of the key beyond its note in the
direction of its amount, folded again, and is doubled out where both moves find the note taken. -/
def Obligations.CollisionsResolved : Prop :=
  (∀ (l : Lead) (avoid : Bool) (speaks : VoiceRule → Bool) (vs : Four VoiceRule),
    (∀ i, (vs.get i).low + 12 ≤ (vs.get i).high) →
    let placed := placeAll l avoid speaks vs
    (∀ i h, (placed.get i).note = some h → ((vs.get i).low : Int) ≤ h ∧ h ≤ (vs.get i).high) ∧
      (∀ i, (speaks (vs.get i) = false ∨ modeNote l (vs.get i) = none) → placed.get i = ⟨none, false⟩) ∧
      (∀ i, (placed.get i).doubledOut = true →
        avoid = true ∧ (placed.get i).note = none ∧ (vs.get i).movable = true ∧ i ≠ 0) ∧
      (avoid = true → ∀ i j h, i < j → j < 4 → (placed.get i).note = some h → (placed.get j).note = some h →
        (vs.get j).movable = false) ∧
      ∀ i h0, i < 4 → speaks (vs.get i) = true → modeNote l (vs.get i) = some h0 →
        let v := vs.get i
        let taken := fun (m : Int) => ∃ j, j < i ∧ (placed.get j).note = some m
        let h := fold v.low v.high h0
        let h1 := collisionMove l v h
        let h2 := collisionMove l v h1
        (avoid = false ∨ ¬taken h ∨ v.movable = false → placed.get i = ⟨some h, false⟩) ∧
          (avoid = true → taken h → v.movable = true →
            (¬taken h1 → placed.get i = ⟨some h1, false⟩) ∧ (taken h1 → ¬taken h2 → placed.get i = ⟨some h2, false⟩) ∧
              (taken h1 → taken h2 → placed.get i = ⟨none, true⟩))) ∧
    (∀ v : VoiceRule, v.movable = true ↔ (v.mode = .scale ∨ v.mode = .chord ∨ v.mode = .semitone) ∧ v.amount ≠ 0) ∧
    ∀ (l : Lead) (v : VoiceRule) (h : Int), (∃ c, c < 12 ∧ l.view.scaleSet.getLsbD c = true) → v.movable = true →
      let key := inKey l.view.tonic l.view.scaleSet
      ∃ n, collisionMove l v h = fold v.low v.high n ∧ key n = true ∧
        (0 < v.amount → h < n ∧ ∀ m, h < m → m < n → key m = false) ∧
          (v.amount < 0 → n < h ∧ ∀ m, n < m → m < h → key m = false)

/-- The planner at a frame completion: when it does not run, and what it gives each voice when it does. -/
def Obligations.PlannerAtAFrameCompletion : Prop :=
  ∀ (p : Planner) (rec : FrameRecord) (view : PlanningView) (sc : Scene) (mode : EngineMode) (envs : Four EnvState),
    let r := p.completeFrame rec view sc mode envs
    let holds := sc.voices.toList.any fun v => v.policy = .hold
    ((rec.state = .silent ∨ (rec.state = .unvoiced ∧ (holds = false ∨ rec.held = none))) →
        r.prevLead = (if rec.state = .silent then none else p.prevLead) ∧
          r.voices = p.voices.map fun v =>
            { v with planned := none, outOfReach := false, doubledOut := false, command := .close }) ∧
      ∀ pitch, rec.held = some pitch →
        (rec.state = .onset ∨ rec.state = .voiced ∨ rec.state = .release ∨ (rec.state = .unvoiced ∧ holds = true)) →
        let n := leadNote p.prevLead pitch sc.hysteresis
        let l : Lead := ⟨n, snap view.tonic view.scaleSet n, view⟩
        let placed := placeAll l sc.collisionAvoid (fun v => !(rec.state = .unvoiced && v.policy = .mute)) sc.voices
        r.prevLead = some n ∧ ∀ i, i < 4 →
          let old := p.voices.get i
          let new := r.voices.get i
          let v := sc.voices.get i
          ((placed.get i).note = none → new = { old with
              planned := none, outOfReach := false, doubledOut := (placed.get i).doubledOut, command := .close }) ∧
            ∀ h, (placed.get i).note = some h →
              let target := 100 * (h - n)
              let sum := new.notePart + (v.detune - ((pitch - 100 * n) * sc.correction).tdiv 100)
              new.planned = some h ∧ new.doubledOut = false ∧
                new.notePart = (if envs.get i = .closed ∨ sc.glide = 0 ∨ (target - old.notePart).natAbs ≤ sc.glide then target
                  else if old.notePart < target then old.notePart + sc.glide else old.notePart - sc.glide) ∧
                new.shift = max (-2400) (min 2400 sum) ∧ new.outOfReach = decide (sum < -2400 ∨ 2400 < sum) ∧
                new.ratio = ratioOf new.shift ∧
                new.command = (if mode = .bypass then .close
                  else if rec.state = .voiced ∨ rec.state = .unvoiced ∨ (rec.state = .onset ∧ sc.onsetMode = .atOnset) then .open
                  else .keep)

/-- The ratio, the gain coefficient and the pan coefficients are the roundings of the manual's formulas. With R the ratio,
`2 R - 1 ≤ 2 ^ (14 + shift / 1200) < 2 R + 1`; its ends are exact and it grows with the shift. With G the gain coefficient of a
count of half-decibel steps above -120, `2 G - 1 ≤ 32768 * 10 ^ (count / 40) < 2 G + 1`; at -120 it is 0. The mixer's set for a gain and a pan is these three. -/
def Obligations.RatioAndCoefficientsRound : Prop :=
  (∀ d : Int, -2400 ≤ d → d ≤ 2400 →
      (2 * ratioOf d - 1) ^ 1200 ≤ 2 ^ (16800 + d).toNat ∧ 2 ^ (16800 + d).toNat < (2 * ratioOf d + 1) ^ 1200 ∧
        (2048 ≤ ratioOf d ∧ ratioOf d ≤ 32768)) ∧
    (∀ d e : Int, -2400 ≤ d → d ≤ e → e ≤ 2400 → ratioOf d ≤ ratioOf e) ∧
    (ratioOf (-2400) = 2048 ∧ ratioOf 0 = 8192 ∧ ratioOf 2400 = 32768) ∧
    (∀ g : Int, -120 < g → g ≤ 12 →
      (2 * gainCoeff g - 1) ^ 40 * 10 ^ (-g).toNat ≤ 32768 ^ 40 * 10 ^ g.toNat ∧
        32768 ^ 40 * 10 ^ g.toNat < (2 * gainCoeff g + 1) ^ 40 * 10 ^ (-g).toNat ∧
        (17 ≤ gainCoeff g ∧ gainCoeff g ≤ 32690)) ∧
    gainCoeff (-120) = 0 ∧
    (∀ g p : Int, coeffs g p = { gain := gainCoeff g, panLeft := panLeft p, panRight := panRight p }) ∧
    ∀ p : Int, -50 ≤ p → p ≤ 50 →
      let θ : ℝ := ((p : ℝ) + 50) / 100 * (Real.pi / 2)
      (panLeft p : ℤ) = ⌊16384 * Real.cos θ + 1 / 2⌋ ∧ (panRight p : ℤ) = ⌊16384 * Real.sin θ + 1 / 2⌋

/-! ### The Shift Engine -/

/-- A head advances by the ratio and carries its lag; an active head past a guard splices by whole periods to a lag of 480 or
more and starts a crossfade from its old place. The period is the last accepted one, rounded, or 240 where there is none. -/
def Obligations.HeadsAdvanceAndSplice : Prop :=
  (∀ (w ratio : Nat) (h : Head), h.Ok w → 2048 ≤ ratio → ratio ≤ 32768 →
      let a := h.advance ratio
      a.Ok ((w + 1) % 4096) ∧ (h.whole * 8192 + h.frac + ratio) % (4096 * 8192) = a.whole * 8192 + a.frac ∧
        h.lag - 3 ≤ a.lag ∧ a.lag ≤ h.lag + 1) ∧
    splicePeriod none = 240 ∧
    (∀ t16, PeriodOk t16 →
      let tp := splicePeriod (some t16)
      (16 * tp ≤ t16 + 8 ∧ t16 + 8 < 16 * tp + 16) ∧ 34 ≤ tp ∧ tp ≤ 686) ∧
    ∀ (w ratio tp x : Nat) (h : Head) (fade : Option Crossfade), h.Ok w → 34 ≤ tp → tp ≤ 686 →
      let a := h.advance ratio
      let r := moveHeads ratio tp x h fade
      ((93 ≤ a.lag ∧ a.lag < 96) ∨ a.lag = 1537 →
          (480 ≤ r.active.lag ∧ r.active.lag < 480 + tp) ∧ (r.active.lag - a.lag) % tp = 0 ∧ r.active.frac = a.frac ∧
            r.active.Ok ((w + 1) % 4096) ∧ r.fade = some ⟨a, 0, x⟩ ∧ r.cut = fade.isSome) ∧
        (96 ≤ a.lag → a.lag ≤ 1536 → r.active = a ∧ (fade = none → r.fade = none ∧ r.cut = false) ∧
          ∀ f, fade = some f →
            let g := f.fading.advance ratio
            r.cut = decide (g.lag < 1 ∨ 4095 < g.lag) ∧
              r.fade = if g.lag < 1 ∨ 4095 < g.lag ∨ f.length ≤ f.progress + 1 then none
                else some { fading := g, progress := f.progress + 1, length := f.length })

/-- The envelope: what a command does at the first sample event after a frame completion, and the level's steps; and a channel's
whole work at a sample event. It acts at the first one after a frame completion only. CLOSED after that, it does nothing and
its signal is 0. Otherwise its heads move, but for a head placed at this event, then the level steps, and the signal is formed
last. -/
def Obligations.EnvelopeSteps : Prop :=
  (∀ (c : Channel) (w : Nat),
      let r := c.act w
      (c.command = .keep → r = c) ∧
        (c.command = .open → (c.env = .closed → r.env = .opening ∧ r.fade = none ∧
            r.active = some { whole := (w + 4096 - 480) % 4096, frac := 0, lag := 480 }) ∧
          (c.env = .closing → r = { c with env := .opening }) ∧ (c.env = .opening ∨ c.env = .open → r = c)) ∧
        (c.command = .close → (c.env = .opening ∨ c.env = .open → r = { c with env := .closing }) ∧
          (c.env = .closed ∨ c.env = .closing → r = c)) ∧
        r.level = c.level ∧ r.ratio = c.ratio ∧ r.command = c.command) ∧
    (∀ (c : Channel) (attack release : Nat),
      let r := c.stepLevel attack release
      let up := c.level + 1 / (256 * (attack : Rat))
      let down := c.level - 1 / (256 * (release : Rat))
      (c.env = .opening → r = if 1 ≤ up then { c with env := .open, level := 1 } else { c with level := up }) ∧
        (c.env = .closing →
          r = if down ≤ 0 then { c with env := .closed, level := 0, active := none, fade := none } else { c with level := down }) ∧
        (c.env = .open ∨ c.env = .closed → r = c)) ∧
    ∀ (c : Channel) (first : Bool) (ring : List (Nat × Sample)) (w tp xfade attack release : Nat),
      let c1 := if first then c.act w else c
      let r := c.sample first ring w tp xfade attack release
      (c1.env = .closed → r = ⟨c1, false, 0⟩) ∧
        ∀ a, c1.env ≠ .closed → c1.active = some a →
          r.signal = r.channel.signal ring ∧
            (c.env = .closed → r.channel = c1.stepLevel attack release ∧ r.cut = false) ∧
            (c.env ≠ .closed →
              let h := moveHeads c1.ratio tp xfade a c1.fade
              r.channel = { c1 with active := some h.active, fade := h.fade }.stepLevel attack release ∧ r.cut = h.cut)

/-- A voice signal lies within 24 bits, is 0 for a CLOSED channel, and is the level times the head's sample, or times the
weighted pair of head samples in a crossfade, rounded once, halves away from zero (0.5). A head's sample is read between two ring
places, by its fraction. -/
def Obligations.VoiceSignals : Prop :=
  (∀ y : Rat, roundRat y = if 0 ≤ y then ⌊y + 1 / 2⌋ else ⌈y - 1 / 2⌉) ∧
  ∀ (w : Nat) (c : Channel) (ring : List (Nat × Sample)), c.Ok w = true →
    let read := fun (h : Head) =>
      let x0 : Rat := (ringRead ring h.whole).toInt
      let x1 : Rat := (ringRead ring ((h.whole + 1) % 4096)).toInt
      x0 + (h.frac : Rat) / 8192 * (x1 - x0)
    (-8388608 ≤ c.signal ring ∧ c.signal ring ≤ 8388607) ∧ (c.env = .closed → c.signal ring = 0) ∧
      (∀ a, c.active = some a → c.fade = none → c.signal ring = roundRat (read a * c.level)) ∧
      ∀ a f, c.active = some a → c.fade = some f →
        c.signal ring = roundRat ((read f.fading * (((f.length : Rat) - f.progress) / f.length) +
          read a * ((f.progress : Rat) / f.length)) * c.level)

/-! ### The mixer and the port -/

/-- The bypass ramp's step and the four output samples: each the exact sum over 2^28, rounded once and saturated; and the clip
mark. -/
def Obligations.MixedSamples : Prop :=
  ∀ (m : Mixer) (x : Int) (v : Four Int),
    let r := m.sample x v
    let b := r.mixer.ramp
    let term := fun (y : Int) (c : Coeffs) (pan : Coeffs → Nat) => (y * c.gain * pan c : Rat)
    let voices := fun (pan : Coeffs → Nat) => (b / 64 : Rat) * (term v.v0 m.voices.v0 pan + term v.v1 m.voices.v1 pan +
      term v.v2 m.voices.v2 pan + term v.v3 m.voices.v3 pan)
    let main := fun (pan : Coeffs → Nat) => roundRat ((term x m.dry pan + voices pan) / 2 ^ 28)
    let harm := fun (pan : Coeffs → Nat) => roundRat (voices pan / 2 ^ 28)
    let sat := fun (y : Int) => max (-8388608) (min 8388607 y)
    let spilled := [main Coeffs.panLeft, main Coeffs.panRight, harm Coeffs.panLeft, harm Coeffs.panRight].any fun y =>
      y < -8388608 || 8388607 < y
    (m.ramp ≤ 64 → b = if m.mode = .bypass then m.ramp - 1 else min 64 (m.ramp + 1)) ∧
      (r.out.mainLeft.toInt = sat (main Coeffs.panLeft) ∧ r.out.mainRight.toInt = sat (main Coeffs.panRight) ∧
        r.out.harmLeft.toInt = sat (harm Coeffs.panLeft) ∧ r.out.harmRight.toInt = sat (harm Coeffs.panRight)) ∧
      r.clip = (spilled && !m.clip) ∧ r.mixer = { m with ramp := b, clip := m.clip || spilled }

/-- A frame clock edge begins a port frame with the samples that wait, or zeros; a gap loses a PRESENT clock, stalls a
running engine and raises AUDIO CLOCK, and takes an ABSENT clock's qualifying count. The open gap and the zeros from its
timeout on are log 13. -/
def Obligations.ClockEdgesAndGaps : Prop :=
  ∀ s : State, s.start.phase ≠ .pinHeld →
    exec .frameClockEdge s = .next { s with port := { s.port with
        windowCount := s.port.windowCount + 1, gapOpen := false, sending := s.port.formed.getD ⟨0, 0, 0, 0⟩, formed := none } } ∧
      (s.port.clock = .present → exec .clockGapTimeout s = .next { s with
        port := { s.port with clock := .absent, qualifying := 0, formed := none, windowGap := true, gapOpen := true,
                              sending := ⟨0, 0, 0, 0⟩ }
        engine := { s.engine with state := if s.engine.state = .stalled .ramFault then .stalled .ramFault else .stalled .clock }
        notices := s.notices.raise .audioClock }) ∧
      (s.port.clock = .absent → exec .clockGapTimeout s = .next { s with
        port := { s.port with qualifying := 0, windowGap := true, gapOpen := true, sending := ⟨0, 0, 0, 0⟩ } })

/-- The end of a measurement window: the measured rate, a PRESENT clock lost on a count outside 470..490, an ABSENT clock
qualified, and, at its return, the restart of tracker, planner and mixer, with that of an engine that waited for it. A gap still
open at the end of a window counts for the next (log 13), and a PHRASE START that awaits the Cue Queue goes on waiting over the
return (log 8). -/
def Obligations.MeasurementWindows : Prop :=
  ∀ s : State, s.start.phase ≠ .pinHeld →
    let n := s.port.windowCount
    let fits := 470 ≤ n ∧ n ≤ 490
    let port := { s.port with lastWindowCount := n, windowCount := 0, windowGap := s.port.gapOpen }
    (s.port.clock = .present → fits → exec .measurementWindowEnd s = .next { s with port := port }) ∧
      (s.port.clock = .present → ¬fits → exec .measurementWindowEnd s = .next { s with
        port := { port with clock := .absent, qualifying := 0, formed := none }
        engine := { s.engine with state := if s.engine.state = .stalled .ramFault then .stalled .ramFault else .stalled .clock }
        notices := s.notices.raise .audioClock }) ∧
      (s.port.clock = .absent → ¬fits → exec .measurementWindowEnd s = .next { s with port := { port with qualifying := 0 } }) ∧
      (s.port.clock = .absent → fits → s.port.windowGap = true → exec .measurementWindowEnd s = .next { s with port := port }) ∧
      (s.port.clock = .absent → fits → s.port.windowGap = false → s.port.qualifying = 0 →
        exec .measurementWindowEnd s = .next { s with port := { port with qualifying := 1 } }) ∧
      (s.port.clock = .absent → fits → s.port.windowGap = false → s.port.qualifying = 1 →
        let now : State := { s with port := { port with clock := .present, qualifying := 0 } }
        exec .measurementWindowEnd s =
          .next (if s.engine.state = .stalled .clock ∧ s.start.phase = .up then now.restarted
            else { now.restarted with engine := s.engine }))

/-! ### The link -/

/-- What a received byte does in each state of the assembler. That a stop-bit error goes before the value of a length byte is
log 27. -/
def Obligations.ReceivedBytes : Prop :=
  ∀ (b : Byte) (stopError : Bool) (s : State), s.start.phase ≠ .pinHeld →
    let becomes := fun (a : Assembler) => ({ s with link := { s.link with assembler := a } } : State)
    (s.link.assembler = .hunt → exec (.receivedByte b stopError) s =
        .next (becomes (if b = 0x7E ∧ stopError = false then .length else .hunt))) ∧
      (s.link.assembler ≠ .hunt → stopError = true → exec (.receivedByte b stopError) s = .next (s.offered (.fault .stop))) ∧
      (s.link.assembler = .length → stopError = false → exec (.receivedByte b stopError) s =
        .next (if 2 ≤ b.toNat ∧ b.toNat ≤ 250 then becomes (.body b.toNat []) else s.offered (.fault .length))) ∧
      ∀ n stored, s.link.assembler = .body n stored → stopError = false →
        (stored.length + 1 < n → exec (.receivedByte b stopError) s = .next (becomes (.body n (stored ++ [b])))) ∧
          ∀ k q p, stored.length + 1 = n → stored ++ [b] = k :: q :: p →
            exec (.receivedByte b stopError) s = .next (s.offered (.frame k q p))

/-- The bytes of a request frame, received without fault from HUNT, put exactly that frame at the back of the FIFO. -/
def Obligations.FramesAssemble : Prop :=
  ∀ (kind seq : Byte) (payload : List Byte) (s : State), payload.length ≤ 248 → s.start.phase ≠ .pinHeld →
    s.link.assembler = .hunt → s.link.fifo.length < 4 →
    receiveBytes (0x7E :: byteOfNat (payload.length + 2) :: kind :: seq :: payload) s =
      { s with link := { s.link with fifo := s.link.fifo ++ [.frame kind seq payload] } }

/-- The named receive events: the byte that completes a frame, a byte that faults, and the gap timer, each offering its
entry to the FIFO or raising LINK OVERRUN. These rows overlap RECEIVED_BYTE (log 5); a stop-bit error goes before the value of
a length byte (log 27). -/
def Obligations.ReceiveEventsOffer : Prop :=
  ∀ s : State, s.start.phase ≠ .pinHeld →
    (∀ (b : Byte) (n : Nat) (stored : List Byte) (k q : Byte) (p : List Byte), s.link.assembler = .body n stored →
        n ≤ stored.length + 1 → stored ++ [b] = k :: q :: p → exec (.frameReceived b) s = .next (s.offered (.frame k q p))) ∧
      (∀ b, s.link.assembler ≠ .hunt → exec (.receiveFault b true) s = .next (s.offered (.fault .stop))) ∧
      (∀ b : Byte, s.link.assembler = .length → b.toNat < 2 ∨ 250 < b.toNat →
        exec (.receiveFault b false) s = .next (s.offered (.fault .length))) ∧
      (s.link.assembler ≠ .hunt → exec .receiveGapTimeout s = .next (s.offered (.fault .gap)))

/-- A fault entry is answered with its BAD_FRAME frame, a frame of no request with UNKNOWN_KIND, a RESET with OK and no
further entry is taken; the front frame leaves the reply queue once it is sent. The byte of every reply code, the kinds of the
requests, and the bytes of a frame sent: start, length, kind, sequence, the code but for READY, payload. -/
def Obligations.LinkRepliesAndReset : Prop :=
  [ReplyCode.ok, .accepted, .nothing, .badFrame, .unknownKind, .badLength, .badField, .busy, .frozen, .storeFault, .lowSupply,
      .overlayActive, .notBlank, .notValid, .queueFull, .duplicateTag, .notFound].map ReplyCode.byte =
    [0x00, 0x01, 0x02, 0x10, 0x11, 0x12, 0x13, 0x20, 0x21, 0x22, 0x23, 0x24, 0x25, 0x26, 0x30, 0x31, 0x32] ∧
  (∀ kind : Byte, kind ∈ requestKinds ↔ ∃ i seq payload, request? i = some (kind, seq, payload)) ∧
  (∀ f : ReplyFrame, f.bytes = match f.code with
    | some code => 0x7E :: BitVec.ofNat 8 (3 + f.payload.length) :: f.kind :: f.seq :: code :: f.payload
    | none => 0x7E :: BitVec.ofNat 8 (2 + f.payload.length) :: f.kind :: f.seq :: f.payload) ∧
  (∀ (cause : ReceiveFault) (rest : List FifoEntry) (s : State), s.Takes (.fault cause) rest →
      exec (.badFrame cause) s = .next (s.answered rest ⟨0xFF, 0x00, some 0x10, [match cause with
        | .length => 0
        | .stop => 1
        | .gap => 2]⟩)) ∧
    (∀ (kind seq : Byte) (payload : List Byte) (rest : List FifoEntry) (s : State), s.Takes (.frame kind seq payload) rest →
      (0x80 ≤ kind.toNat → exec (.unknownKind kind seq payload) s =
          .next (s.answered rest { kind := 0xFE, seq := seq, code := some 0x11, payload := [kind] })) ∧
        (kind.toNat < 0x80 → kind ∉ requestKinds → exec (.unknownKind kind seq payload) s =
          .next (s.answered rest { kind := kind + 0x80, seq := seq, code := some 0x11, payload := [] }))) ∧
    (∀ (seq : Byte) (rest : List FifoEntry) (s : State), s.Takes (.frame 0x03 seq []) rest →
      exec (.reset seq []) s =
        .next { s with link := { s.link.answered rest (replyTo 0x03 seq .ok []) with stopped := true } }) ∧
    ∀ (f : ReplyFrame) (more : List ReplyFrame) (s : State), s.link.replies = f :: more →
      exec .transmitComplete s = .next { s with link := { s.link with replies := more } }

/-- Every request that can be taken leaves the FIFO and receives exactly one reply, with its kind + 80h and its sequence;
one of a wrong length is answered BAD_LENGTH and changes nothing else; one that cannot be taken waits. That it waits is the
model's guard (log 1). -/
def Obligations.EveryRequestAnsweredOnce : Prop :=
  ∀ (i : Instr) (kind seq : Byte) (payload : List Byte) (s : State), request? i = some (kind, seq, payload) →
    ((∀ rest, ¬s.Takes (.frame kind seq payload) rest) → exec i s = .next s) ∧
      ∀ rest, s.Takes (.frame kind seq payload) rest →
        (legalLength kind payload = false → exec i s = .next (s.answered rest (replyTo kind seq .badLength []))) ∧
          (legalLength kind payload = true → ∃ t c p, exec i s = .next t ∧ c ≠ ReplyCode.badLength ∧
            (t.link.fifo = rest ∧ t.link.replies = s.link.replies ++ [replyTo kind seq c p] ∧
              t.link.assembler = s.link.assembler ∧ t.link.highRate = s.link.highRate) ∧
            (c ≠ .ok → c ≠ .accepted → c ≠ .duplicateTag → t = s.answered rest (replyTo kind seq c [])))

/-- The bytes of READ SETUP, READ CONTEXT, READ WORKING SCENE, LIST CUES and STORE STATUS, with the catalogue's lengths. The
key READ CONTEXT reports is the one under the scene in force (log 25). STORE STATUS shows an operation in flight as old as it
then is: the command carries the stretch that has passed (log 7). -/
def Obligations.SetupSceneCueAndStoreReports : Prop :=
  ∀ (seq : Byte) (since : Nat) (rest : List FifoEntry) (s : State), s.working.scene.Ok = true → s.key.Ok → ∃ v : PlanningView,
    s.key.Publishes s.working.scene v ∧
    let reports := fun (i : Instr) (kind : Byte) (bytes : List Byte) (n : Nat) => s.Takes (.frame kind seq []) rest →
      bytes.length = n ∧ exec i s = .next (s.answered rest (replyTo kind seq .ok bytes))
    let two := fun (n : Nat) => [byteOfNat (n / 256), byteOfNat (n % 256)]
    let c := s.tracker.settings
    let u := s.atStatus since
    let counted := fun (x : SlotState) => byteOfNat (s.store.table.toList.countP (· = x))
    reports (.readSetup seq []) 0x12 (two c.lowHz ++ two c.highHz ++
        [BitVec.ofInt 8 c.gate, byteOfNat c.qOn, byteOfNat c.qOff, byteOfNat c.hold, byteOfNat c.phraseGap] ++
        two s.tracker.fRef ++ s.key.scales.toList.flatMap (fun x => two x.toNat) ++
        s.key.templates.toList.flatMap (fun x => two x.intervals.toNat ++ [byteOfNat x.scaleIndex]) ++
        [if s.key.policy = .clear then 1 else 0]) 80 ∧
      reports (.readContext seq []) 0x25 ([byteOfNat s.key.notes.length] ++
        (s.key.notes.map byteOfNat ++ List.replicate 10 0xFF).take 10 ++ (match s.key.context with
          | .none => [0, 0xFF, 0xFF]
          | .active r t => [1, byteOfNat r, byteOfNat t]
          | .latched r t => [2, byteOfNat r, byteOfNat t]) ++
        (match v.chordTones with
          | some x => two x.toNat
          | none => [0xFF, 0xFF]) ++
        [if s.key.policy = .clear then 1 else 0, if v.fromChord then 1 else 0, byteOfNat v.tonic, byteOfNat v.scaleIndex]) 20 ∧
      reports (.readWorkingScene seq []) 0x33 (s.working.scene.bytes ++ (match s.working.origin.source with
          | .default => [0, 0xFF, 0xFF, 0xFF]
          | .slot b i => [1, byteOfNat b, byteOfNat i, 0xFF]
          | .overlay b i _ => [2, byteOfNat b, byteOfNat i, 0xFF]
          | .inline => [3, 0xFF, 0xFF, 0xFF]
          | .cue t => [4, 0xFF, 0xFF, byteOfNat t]) ++
        [(if s.working.origin.edited then 1 else 0) + (match s.working.origin.source with
            | .overlay _ _ true => 2
            | _ => 0),
          if s.working.follow.isSome then 1 else 0]) 64 ∧
      reports (.listCues seq []) 0x44 ([byteOfNat s.cues.queue.length, byteOfNat s.cues.counter] ++
        s.cues.queue.flatMap fun q => [byteOfNat q.tag, ((match q.state with
            | .queued => 0
            | .armed => 1
            | .landing => 2) : Byte)] ++ ((match q.trigger with
            | .footswitch => [0, 0xFF]
            | .beats n => [1, byteOfNat n]
            | .phrase => [2, 0xFF]) : List Byte) ++ [if q.landing = .atPhrase then 1 else 0, byteOfNat q.deadline] ++
          ((match q.source with
            | .slot b i => [0, byteOfNat b, byteOfNat i]
            | .inline => [1, 0xFF, 0xFF]) : List Byte)) (2 + 9 * s.cues.queue.length) ∧
      (s.Takes (.frame 0x53 seq []) rest →
        let bytes := ((match u.store.op with
          | none => [0] ++ List.replicate 8 0xFF
          | some o => ((match o.work with
              | .program b i _ _ => [1, byteOfNat b, byteOfNat i]
              | .erase b _ => [2, byteOfNat b, 0xFF]) : List Byte) ++ [((match o.status with
                | .inFlight => 0
                | .done => 1
                | .failed _ => 2) : Byte)] ++ ((match o.work with
              | .program _ _ _ .mark => [0, 0xFF]
              | .program _ _ _ (.write n) => [1, byteOfNat n]
              | .program _ _ _ .commit => [2, 0xFF]
              | .erase _ (.mark i) => [0, byteOfNat i]
              | .erase _ (.prewrite i _) => [1, byteOfNat i]
              | .erase _ (.pulse n) => [2, byteOfNat n]) : List Byte) ++ two (o.elapsedMicros / 1000) ++ [((match o.status with
                | .failed .verify => 0
                | .failed .timer => 1
                | .failed .supply => 2
                | _ => 0xFF) : Byte)]) : List Byte) ++
          [if u.store.latch then 1 else 0, if s.store.frozen then 1 else 0, if s.store.supplyHigh then 1 else 0,
            match s.overlay.mapped with
              | some b => byteOfNat b
              | none => 0xFF] ++
          s.store.table.toList.map (fun x => ((match x with
            | .blank => 0
            | .valid => 1
            | .incomplete => 2) : Byte)) ++ [counted .valid, counted .blank, counted .incomplete]
        bytes.length = 80 ∧
          exec (.storeStatus seq ⟨[], since⟩) s = .next (u.answered rest (replyTo 0x53 seq .ok bytes)))

/-- The bytes of GET STATUS, MONITOR and READ NOTICES, and those of a number in one byte and in two. A window count above 65535 does not fit its two bytes and is left free
(log 6). The key MONITOR reports is the one under the scene in force (log 25). -/
def Obligations.StatusMonitorAndNoticeReports : Prop :=
  ((∀ n, byteOfNat n = BitVec.ofNat 8 n) ∧ ∀ v, twoBytes v = [byteOfNat (v.toNat / 256), byteOfNat (v.toNat % 256)]) ∧
  (∀ (u : Notices) (g : Fin 6), u.attention g = true ↔ u.pending[g] &&& u.enabledOf g ≠ 0 ∧ (g = 0 ∨ u.mask < u.levelOf g)) ∧
  ∀ (seq : Byte) (rest : List FifoEntry) (s : State), ∃ v : PlanningView, s.key.Publishes s.working.scene v ∧
    let voice := fun (c : Channel) (p : PlanVoice) =>
      [((match c.env with
        | .closed => 0
        | .opening => 1
        | .open => 2
        | .closing => 3) : Byte), match p.planned with
        | some h => BitVec.ofInt 8 h
        | none => 0xFF] ++ twoBytes (BitVec.ofInt 16 p.shift) ++ (match c.active with
          | some h => twoBytes (BitVec.ofInt 16 h.lag)
          | none => [0xFF, 0xFF]) ++ [(if p.outOfReach then 1 else 0) + (if p.doubledOut then 2 else 0)]
    (s.Takes (.frame 0x01 seq []) rest → s.port.lastWindowCount < 65536 →
        exec (.getStatus seq []) s = .next (s.answered rest (replyTo 0x01 seq .ok
          [if s.engine.state = .running then 0 else 1,
            if s.engine.state = .running then 0xFF else if s.engine.state = .stalled .clock then 0 else 1,
            if s.port.clock = .present then 1 else 0, byteOfNat (s.port.lastWindowCount / 256),
            byteOfNat (s.port.lastWindowCount % 256), if s.mixer.mode = .bypass then 1 else 0, byteOfNat s.mixer.ramp]))) ∧
      (s.Takes (.frame 0x02 seq []) rest → exec (.monitor seq []) s = .next (s.answered rest (replyTo 0x02 seq .ok
        ([((match s.tracker.record.state with
            | .silent => 0
            | .unvoiced => 1
            | .onset => 2
            | .voiced => 3
            | .release => 4) : Byte)] ++ (match s.tracker.record.held with
            | some p => twoBytes (BitVec.ofInt 16 p)
            | none => [0xFF, 0xFF]) ++
          [byteOfNat s.tracker.record.q, BitVec.ofInt 8 s.tracker.record.level] ++ (match s.key.context with
            | .none => [0, 0xFF, 0xFF]
            | .active r t => [1, byteOfNat r, byteOfNat t]
            | .latched r t => [2, byteOfNat r, byteOfNat t]) ++
          [if v.fromChord then 1 else 0, byteOfNat v.tonic, byteOfNat v.scaleIndex] ++
          voice s.engine.channels.v0 s.planner.voices.v0 ++ voice s.engine.channels.v1 s.planner.voices.v1 ++
          voice s.engine.channels.v2 s.planner.voices.v2 ++ voice s.engine.channels.v3 s.planner.voices.v3)))) ∧
      (s.Takes (.frame 0x60 seq []) rest → ∃ top,
        exec (.readNotices seq []) s = .next (s.answered rest (replyTo 0x60 seq .ok
          ((List.finRange 6).flatMap (fun g => [(s.notices.pending[g]).zeroExtend 8,
            (s.notices.pending[g] &&& s.notices.enabledOf g).zeroExtend 8]) ++ [top]))) ∧
        (s.notices.attnLow = false → top = 0xFF) ∧
        (s.notices.attnLow = true → ∃ g : Fin 6, top = byteOfNat g.val ∧ s.notices.attention g = true ∧
          ∀ h : Fin 6, s.notices.attention h = true → s.notices.levelOf h < s.notices.levelOf g ∨
            (s.notices.levelOf h = s.notices.levelOf g ∧ g ≤ h)))

/-- READ SLOT and OVERLAY READ: the refusals, the overlay's answer for the mapped bank, BUSY, and the store's answer; and where
a slot's state and record stand, and which slots are BUSY. -/
def Obligations.SlotReports : Prop :=
  (∀ (st : SceneStore) (b i : Nat) (h : 8 * b + i < 64), st.stateAt b i = st.table[8 * b + i] ∧
      (∀ r, st.recordAt b i = some r ↔ st.table[8 * b + i] = .valid ∧ st.array[8 * b + i] = .valid r) ∧
      (st.busyAt b i = true ↔ ∃ o, st.op = some o ∧ o.status = .inFlight ∧
        ((∃ r stage, o.work = .program b i r stage) ∨ ∃ stage, o.work = .erase b stage))) ∧
  (∀ (o : Overlay) (i : Nat) (h : i < 8), o.recordAt i = o.ram[i]) ∧
  ∀ (seq b i : Byte) (rest : List FifoEntry) (s : State),
    (s.Takes (.frame 0x50 seq [b, i]) rest →
      let answers := fun (c : ReplyCode) (p : List Byte) =>
        exec (.readSlot seq [b, i]) s = .next (s.answered rest (replyTo 0x50 seq c p))
      (7 < b.toNat ∨ 7 < i.toNat → answers .badField []) ∧
        (b.toNat ≤ 7 → i.toNat ≤ 7 →
          (s.overlay.mapped = some b.toNat → answers .ok (match s.overlay.recordAt i.toNat with
            | some r => [1, 1] ++ r.bytes
            | none => [1, 0])) ∧
          (s.overlay.mapped ≠ some b.toNat → s.store.busyAt b.toNat i.toNat = true → answers .busy []) ∧
          (s.overlay.mapped ≠ some b.toNat → s.store.busyAt b.toNat i.toNat = false →
            (s.store.stateAt b.toNat i.toNat = .blank → answers .ok [0, 0]) ∧
              (s.store.stateAt b.toNat i.toNat = .incomplete → answers .ok [0, 2]) ∧
              ∀ r, s.store.stateAt b.toNat i.toNat = .valid → s.store.recordAt b.toNat i.toNat = some r →
                answers .ok ([0, 1] ++ r.bytes)))) ∧
      (s.Takes (.frame 0x5B seq [i]) rest →
        (7 < i.toNat → exec (.overlayRead seq [i]) s = .next (s.answered rest (replyTo 0x5B seq .badField []))) ∧
          (i.toNat ≤ 7 → exec (.overlayRead seq [i]) s = .next (s.answered rest (replyTo 0x5B seq .ok
            (match s.overlay.recordAt i.toNat with
              | some r => 1 :: r.bytes
              | none => [0])))))

/-! ### Settings, key and chord -/

/-- SET ENGINE MODE, SET TUNING, SET CHORD POLICY, SET SCALE and SET TEMPLATE store their values, clamped or with class 0
added, answer them as stored, and change nothing else; an unknown name or entry is refused. -/
def Obligations.SettingsStored : Prop :=
  ∀ (seq a b c d : Byte) (rest : List FifoEntry) (s : State),
    (s.Takes (.frame 0x04 seq [a]) rest →
        (a = 0 ∨ a = 1 → exec (.setEngineMode seq [a]) s = .next ({ s with
            mixer := { s.mixer with mode := if a = 1 then .bypass else .run } }.answered rest (replyTo 0x04 seq .ok [a]))) ∧
          (a ≠ 0 → a ≠ 1 → exec (.setEngineMode seq [a]) s = .next (s.answered rest (replyTo 0x04 seq .badField [])))) ∧
      (s.Takes (.frame 0x24 seq [a]) rest →
        (a = 0 ∨ a = 1 → exec (.setChordPolicy seq [a]) s = .next ({ s with
            key := { s.key with policy := if a = 1 then .clear else .latch } }.answered rest (replyTo 0x24 seq .ok [a]))) ∧
          (a ≠ 0 → a ≠ 1 → exec (.setChordPolicy seq [a]) s = .next (s.answered rest (replyTo 0x24 seq .badField [])))) ∧
      (s.Takes (.frame 0x10 seq [a, b]) rest →
        let f := max 4150 (min 4660 (256 * a.toNat + b.toNat))
        exec (.setTuning seq [a, b]) s = .next ({ s with tracker := { s.tracker with fRef := f } }.answered rest
          (replyTo 0x10 seq .ok [byteOfNat (f / 256), byteOfNat (f % 256)]))) ∧
      (s.Takes (.frame 0x22 seq [a, b, c]) rest →
        (15 < a.toNat → exec (.setScale seq [a, b, c]) s = .next (s.answered rest (replyTo 0x22 seq .badField []))) ∧
          ∀ h : a.toNat < 16,
            let stored : PitchSet := (b ++ c).extractLsb' 0 12 ||| 1
            exec (.setScale seq [a, b, c]) s = .next ({ s with
              key := { s.key with scales := s.key.scales.set a.toNat stored } }.answered rest
                (replyTo 0x22 seq .ok (a :: twoBytes (stored.zeroExtend 16))))) ∧
      (s.Takes (.frame 0x23 seq [a, b, c, d]) rest →
        (11 < a.toNat → exec (.setTemplate seq [a, b, c, d]) s = .next (s.answered rest (replyTo 0x23 seq .badField []))) ∧
          ∀ h : a.toNat < 12,
            let stored : Template := ⟨(b ++ c).extractLsb' 0 12 ||| 1, min 15 d.toNat⟩
            exec (.setTemplate seq [a, b, c, d]) s = .next ({ s with
              key := { s.key with templates := s.key.templates.set a.toNat stored } }.answered rest
                (replyTo 0x23 seq .ok (a :: twoBytes (stored.intervals.zeroExtend 16) ++ [byteOfNat stored.scaleIndex]))))

/-- SET TRACKER clamps and stores the seven settings in the order of the rule, answers them as stored, and keeps every count
in progress. That one taken before the first frame completion leaves the T16 of the published record, which R20 gives as Tlo, is
the model's (log 14). -/
def Obligations.TrackerSettingsStored : Prop :=
  ∀ (seq l1 l0 h1 h0 g on off hold gap : Byte) (rest : List FifoEntry) (s : State),
    s.Takes (.frame 0x11 seq [l1, l0, h1, h0, g, on, off, hold, gap]) rest →
    ∃ c : TrackerSettings, c.Ok ∧
      (let low := max 70 (min 1400 (256 * l1.toNat + l0.toNat))
       let high := max 70 (min 1400 (256 * h1.toNat + h0.toNat))
       c.highHz = min 1400 (max high (2 * low)) ∧ c.lowHz = if 1400 < 2 * low then 700 else low) ∧
      c.gate = max (-72) (min (-24) g.toInt) ∧ c.qOn = max 30 (min 95 on.toNat) ∧ c.qOff = max 20 (min c.qOn off.toNat) ∧
      c.hold = min 60 hold.toNat ∧ c.phraseGap = max 8 (min 250 gap.toNat) ∧
      exec (.setTracker seq [l1, l0, h1, h0, g, on, off, hold, gap]) s =
        .next ({ s with tracker := { s.tracker with settings := c } }.answered rest (replyTo 0x11 seq .ok
          [byteOfNat (c.lowHz / 256), byteOfNat (c.lowHz % 256), byteOfNat (c.highHz / 256), byteOfNat (c.highHz % 256),
            BitVec.ofInt 8 c.gate, byteOfNat c.qOn, byteOfNat c.qOff, byteOfNat c.hold, byteOfNat c.phraseGap]))

/-- NOTE: the set after the request, recognition on a changed set that holds a note, the release on an emptied one, the
notices, and the reply. -/
def Obligations.NoteRequests : Prop :=
  ∀ (seq n a : Byte) (rest : List FifoEntry) (s : State), s.Takes (.frame 0x20 seq [n, a]) rest →
    let ends := fun (notes : List Nat) (ctx : ChordContext) (u : Notices) (action evicted : Byte) =>
      exec (.note seq [n, a]) s = .next ({ s with
        key := { s.key with notes := notes, context := ctx }, notices := u }.answered rest (replyTo 0x20 seq .ok
          ([action, evicted, byteOfNat notes.length] ++ (match ctx with
            | .none => [0, 0xFF, 0xFF]
            | .active r t => [1, byteOfNat r, byteOfNat t]
            | .latched r t => [2, byteOfNat r, byteOfNat t]))))
    let chord : Option (Nat × Nat) := match s.key.context with
      | .none => none
      | .active r t => some (r, t)
      | .latched r t => some (r, t)
    let recognises := fun (notes : List Nat) (u : Notices) (action evicted : Byte) =>
      match KeyContext.recognise { s.key with notes := notes } with
      | some (t, r) => ends notes (.active r t)
          (if chord = some (r, t) then u else u.raise .chordChanged) action evicted
      | none => ends notes s.key.context (u.raise .chordUnrecognized) action evicted
    let held := n.toNat ∈ s.key.notes
    (127 < n.toNat ∨ (a ≠ 0 ∧ a ≠ 1) → exec (.note seq [n, a]) s = .next (s.answered rest (replyTo 0x20 seq .badField []))) ∧
      (n.toNat ≤ 127 → a = 1 →
        (held → ends s.key.notes s.key.context s.notices 2 0xFF) ∧
          (¬held → s.key.notes.length < 10 → recognises (s.key.notes ++ [n.toNat]) s.notices 0 0xFF) ∧
          ∀ oldest others, ¬held → s.key.notes = oldest :: others → s.key.notes.length = 10 →
            recognises (others ++ [n.toNat]) (s.notices.raise .setOverflow) 1 (byteOfNat oldest)) ∧
      (n.toNat ≤ 127 → a = 0 →
        (¬held → ends s.key.notes s.key.context s.notices 4 0xFF) ∧
          (held → s.key.notes.erase n.toNat ≠ [] → recognises (s.key.notes.erase n.toNat) s.notices 3 0xFF) ∧
          (held → s.key.notes.erase n.toNat = [] →
            (s.key.context = .none → ends [] (.none : ChordContext) s.notices 3 0xFF) ∧
              (s.key.policy = .clear → s.key.context ≠ .none → ends [] .none (s.notices.raise .chordChanged) 3 0xFF) ∧
              ∀ r t, s.key.policy = .latch → chord = some (r, t) → ends [] (.latched r t) s.notices 3 0xFF))

/-- Recognition finds a pair exactly where one qualifies, and then the smallest entry and, for it, the first qualifying root
counting upward from the class of the lowest held note. Entry t of a unit is the t-th of its templates. -/
def Obligations.RecognitionChoosesTheChord : Prop :=
  (∀ (k : KeyContext) (t : Nat) (h : t < 12), k.template t = k.templates[t]) ∧
  ∀ k : KeyContext, k.notes ≠ [] →
    let held := fun (c : Nat) => ∃ n ∈ k.notes, n % 12 = c
    let pair := fun (t r : Nat) => t < 12 ∧ r < 12 ∧ held r ∧
      ∀ c, held c → ∃ i, i < 12 ∧ (k.template t).intervals.getLsbD i = true ∧ c = (i + r) % 12
    (∀ t r, k.recognise = some (t, r) → pair t r ∧ (∀ t' r', pair t' r' → t ≤ t') ∧
        ∀ low r', low ∈ k.notes → (∀ n ∈ k.notes, low ≤ n) → pair t r' →
          (r + 12 - low % 12) % 12 ≤ (r' + 12 - low % 12) % 12) ∧
      (k.recognise = none → ∀ t r, ¬pair t r)

/-- NOTES CLEAR, CLEAR CUES and READ CUE RESULTS empty what they name, with their notices and replies, and nothing else. -/
def Obligations.ClearingRequests : Prop :=
  ∀ (seq : Byte) (rest : List FifoEntry) (s : State),
    (s.Takes (.frame 0x21 seq []) rest →
        exec (.notesClear seq []) s = .next ({ s with
          key := { s.key with notes := [], context := .none }
          notices := if s.key.context = ChordContext.none then s.notices else s.notices.raise .chordChanged }.answered rest
            (replyTo 0x21 seq .ok []))) ∧
      (s.Takes (.frame 0x43 seq []) rest → s.cues.Ok →
        exec (.clearCues seq []) s = .next ({ s with
          cues := { queue := [], counter := 0,
                    results := expectedResults s.cues.results s.cues.counter .cleared s.cues.queue }
          notices := noticesAfter s.notices .cueDiscarded s.cues.results.length s.cues.queue.length }.answered rest
            (replyTo 0x43 seq .ok [byteOfNat s.cues.queue.length]))) ∧
      (s.Takes (.frame 0x45 seq []) rest →
        exec (.readCueResults seq []) s = .next ({ s with cues := { s.cues with results := [] } }.answered rest
          (replyTo 0x45 seq .ok (byteOfNat s.cues.results.length :: s.cues.results.flatMap fun (e : CueResult) =>
            [byteOfNat e.tag] ++ ((match e.outcome with
              | .landed .trigger => [0, 0]
              | .landed .phrase => [0, 1]
              | .landed .deadline => [0, 2]
              | .landed .forced => [0, 3]
              | .cancelled => [1, 0xFF]
              | .cleared => [2, 0xFF]
              | .preempted => [3, 0xFF]
              | .queueAbort => [4, 0xFF]) : List Byte) ++ [((match e.state with
              | .queued => 0
              | .armed => 1
              | .landing => 2) : Byte), byteOfNat e.counter, if e.overflow then 1 else 0]))))

/-! ### Scenes and the overlay -/

/-- A record that passes the check holds the bytes of its layout field by field, each number brought to the nearest end of its
range, the name's characters replaced and each voice's bounds repaired step by step; so it lies in range, whatever bytes
arrived. It is refused exactly for a bad enumeration. -/
def Obligations.CheckedRecordsLieInRange : Prop :=
  ((∀ low high : Int,
      let l1 := max 24 (min 108 low)
      let u1 := max 24 (min 108 high)
      let u2 := if u1 < l1 + 12 then min (l1 + 12) 108 else u1
      let l2 := if u2 < l1 + 12 then u2 - 12 else l1
      ((repairRange low high).1 : Int) = l2 ∧ ((repairRange low high).2 : Int) = u2) ∧
    [VoiceMode.off, .scale, .chord, .semitone, .drone].map amountRange =
      [(-128, 127), (-14, 14), (-4, 4), (-24, 24), (24, 108)] ∧
    ∀ (p : List Byte) (i : Nat), byteAt p i = p.getD i 0) ∧
  ∀ p : List Byte, p.length = 58 →
    (parseScene p = none ↔ 1 < (byteAt p 14).toNat ∨ 3 < (byteAt p 21).toNat ∨
        ∃ v, v < 4 ∧ (4 < (byteAt p (26 + 8 * v)).toNat ∨ 1 < (byteAt p (26 + 8 * v + 7)).toNat)) ∧
    ∀ sc, parseScene p = some sc →
      let u := fun (i : Nat) => (byteAt p i).toNat
      let z := fun (i : Nat) => (byteAt p i).toInt
      (sc.Ok = true ∧ sc.bytes.length = 58) ∧
        (sc.name = (p.take 12).map (fun b => if 0x20 ≤ b.toNat ∧ b.toNat ≤ 0x7E then b else 0x3F) ∧
          sc.tonic = min 11 (u 12) ∧ sc.scaleIndex = min 15 (u 13) ∧
          sc.keySource = (if u 14 = 1 then .chord else .scene) ∧ sc.correction = min 100 (u 15) ∧
          sc.hysteresis = min 40 (u 16) ∧ sc.glide = min 1200 (256 * u 17 + u 18) ∧
          sc.crossfade = max 32 (min 512 (256 * u 19 + u 20)) ∧ sc.collisionAvoid = (byteAt p 21).getLsbD 0 ∧
          sc.onsetMode = (if (byteAt p 21).getLsbD 1 then .atOnset else .atVoiced) ∧
          sc.dryGain = max (-120) (min 12 (z 22)) ∧ sc.dryPan = max (-50) (min 50 (z 23)) ∧
          sc.attack = max 1 (min 32 (u 24)) ∧ sc.release = max 1 (min 64 (u 25))) ∧
        ∀ i, i < 4 →
          let v := sc.voices.get i
          let o := 26 + 8 * i
          [VoiceMode.off, .scale, .chord, .semitone, .drone][u o]? = some v.mode ∧
            v.amount = max (amountRange v.mode).1 (min (amountRange v.mode).2 (z (o + 1))) ∧
            (v.low, v.high) = repairRange (u (o + 2)) (u (o + 3)) ∧ v.detune = max (-50) (min 50 (z (o + 4))) ∧
            v.gain = max (-120) (min 12 (z (o + 5))) ∧ v.pan = max (-50) (min 50 (z (o + 6))) ∧
            v.policy = (if u (o + 7) = 1 then .hold else .mute)

/-- The layout of a record, byte by byte; a record in range, sent in its own layout, is taken exactly as it stands, with the
clamp mark clear; and the mark is set exactly where the bytes sent are not those of the record taken. -/
def Obligations.RecordsRoundTrip : Prop :=
  (∀ sc : Scene, sc.bytes =
      let nat := fun (n : Nat) => BitVec.ofNat 8 n
      let int := fun (x : Int) => BitVec.ofInt 8 x
      let voice := fun (v : VoiceRule) => [((match v.mode with
        | .off => 0
        | .scale => 1
        | .chord => 2
        | .semitone => 3
        | .drone => 4) : Byte), int v.amount, nat v.low, nat v.high, int v.detune, int v.gain, int v.pan,
          if v.policy = .hold then 1 else 0]
      sc.name ++ [nat sc.tonic, nat sc.scaleIndex, if sc.keySource = .chord then 1 else 0, nat sc.correction,
        nat sc.hysteresis, nat (sc.glide / 256), nat (sc.glide % 256), nat (sc.crossfade / 256), nat (sc.crossfade % 256),
        nat ((if sc.collisionAvoid then 1 else 0) + (if sc.onsetMode = .atOnset then 2 else 0)), int sc.dryGain,
        int sc.dryPan, nat sc.attack, nat sc.release] ++ voice sc.voices.v0 ++ voice sc.voices.v1 ++ voice sc.voices.v2 ++
          voice sc.voices.v3) ∧
    (∀ (p : List Byte) (sc : Scene), clampMark p sc = true ↔ sc.bytes ≠ p) ∧
  ∀ sc : Scene, sc.Ok = true → parseScene sc.bytes = some sc ∧ clampMark sc.bytes sc = false

/-- LOAD SCENE and LOAD INLINE SCENE: each case's reply; a load answered OK replaces the record, sets the origin, drops the
follow record and preempts every cue. -/
def Obligations.SceneLoads : Prop :=
  ∀ (seq : Byte) (rest : List FifoEntry) (s : State), s.cues.Ok →
    let loaded := fun (sc : Scene) (src : OriginSource) => ({ s with
      working := { scene := sc, origin := ⟨src, false⟩, follow := none }
      cues := { queue := [], counter := 0,
                results := expectedResults s.cues.results s.cues.counter .preempted s.cues.queue }
      notices := noticesAfter s.notices .cueDiscarded s.cues.results.length s.cues.queue.length } : State)
    (∀ b i : Byte, s.Takes (.frame 0x30 seq [b, i]) rest →
      let refused := fun (c : ReplyCode) => exec (.loadScene seq [b, i]) s = .next (s.answered rest (replyTo 0x30 seq c []))
      (7 < b.toNat ∨ 7 < i.toNat → refused .badField) ∧
        (b.toNat ≤ 7 → i.toNat ≤ 7 →
          (s.overlay.mapped = some b.toNat → s.overlay.recordAt i.toNat = none → refused .notValid) ∧
          (∀ r, s.overlay.mapped = some b.toNat → s.overlay.recordAt i.toNat = some r →
            exec (.loadScene seq [b, i]) s = .next ((loaded r (.overlay b.toNat i.toNat false)).answered rest
              (replyTo 0x30 seq .ok [2, b, i, 0xFF, 0]))) ∧
          (s.overlay.mapped ≠ some b.toNat → s.store.busyAt b.toNat i.toNat = true → refused .busy) ∧
          (s.overlay.mapped ≠ some b.toNat → s.store.busyAt b.toNat i.toNat = false →
            s.store.stateAt b.toNat i.toNat ≠ .valid → refused .notValid) ∧
          ∀ r, s.overlay.mapped ≠ some b.toNat → s.store.busyAt b.toNat i.toNat = false →
            s.store.recordAt b.toNat i.toNat = some r →
            exec (.loadScene seq [b, i]) s = .next ((loaded r (.slot b.toNat i.toNat)).answered rest
              (replyTo 0x30 seq .ok [1, b, i, 0xFF, 0])))) ∧
      ∀ p, p.length = 58 → s.Takes (.frame 0x31 seq p) rest →
        (parseScene p = none → exec (.loadInlineScene seq p) s = .next (s.answered rest (replyTo 0x31 seq .badField []))) ∧
          ∀ sc, parseScene p = some sc → exec (.loadInlineScene seq p) s =
            .next ((loaded sc .inline).answered rest (replyTo 0x31 seq .ok [if sc.bytes = p then 0 else 1]))

/-- EDIT WORKING SCENE: the scene-wide numeric fields by their identifiers, the fields of a voice, the bounds and the mode
with the second value they store, and the refusals. The clamp mark of two values, their order in the reply and an amount
edited under OFF are the model's reading (logs 11, 18, 19). -/
def Obligations.LiveEdits : Prop :=
  ∀ (seq id voice hi lo : Byte) (rest : List FifoEntry) (s : State),
    s.Takes (.frame 0x32 seq [id, voice, hi, lo]) rest →
    let v := (hi ++ lo).toInt
    let sc := s.working.scene
    let refused := exec (.editWorkingScene seq [id, voice, hi, lo]) s = .next (s.answered rest (replyTo 0x32 seq .badField []))
    let edits := fun (sc' : Scene) (stored : Int) (second : List Byte) (clamped : Bool) =>
      exec (.editWorkingScene seq [id, voice, hi, lo]) s = .next ({ s with working := { s.working with
        scene := sc', origin := { s.working.origin with edited := true } } }.answered rest (replyTo 0x32 seq .ok
          ([id, voice] ++ twoBytes (BitVec.ofInt 16 stored) ++ second ++ [if clamped then 1 else 0])))
    let number := fun (a b : Int) (store : Int → Scene) =>
      edits (store (max a (min b v))) (max a (min b v)) [0xFF, 0xFF] (decide (v < a ∨ b < v))
    let rule := sc.voices.get voice.toNat
    let withRule := fun (r : VoiceRule) => { sc with voices := sc.voices.set voice.toNat r }
    (id = 0x00 ∨ (0x0E ≤ id.toNat ∧ id.toNat ≤ 0x0F) ∨ 0x18 ≤ id.toNat ∨ (0x10 ≤ id.toNat ∧ 3 < voice.toNat) → refused) ∧
      ((id = 0x03 ∨ id = 0x08 ∨ id = 0x09) → v ≠ 0 → v ≠ 1 → refused) ∧
      (id = 0x01 → number 0 11 fun x => { sc with tonic := x.toNat }) ∧
      (id = 0x02 → number 0 15 fun x => { sc with scaleIndex := x.toNat }) ∧
      (id = 0x03 → v = 0 ∨ v = 1 →
        edits { sc with keySource := if v = 1 then .chord else .scene } v [0xFF, 0xFF] false) ∧
      (id = 0x04 → number 0 100 fun x => { sc with correction := x.toNat }) ∧
      (id = 0x05 → number 0 40 fun x => { sc with hysteresis := x.toNat }) ∧
      (id = 0x06 → number 0 1200 fun x => { sc with glide := x.toNat }) ∧
      (id = 0x07 → number 32 512 fun x => { sc with crossfade := x.toNat }) ∧
      (id = 0x08 → v = 0 ∨ v = 1 → edits { sc with collisionAvoid := v = 1 } v [0xFF, 0xFF] false) ∧
      (id = 0x09 → v = 0 ∨ v = 1 →
        edits { sc with onsetMode := if v = 1 then .atOnset else .atVoiced } v [0xFF, 0xFF] false) ∧
      (id = 0x0A → number (-120) 12 fun x => { sc with dryGain := x }) ∧
      (id = 0x0B → number (-50) 50 fun x => { sc with dryPan := x }) ∧
      (id = 0x0C → number 1 32 fun x => { sc with attack := x.toNat }) ∧
      (id = 0x0D → number 1 64 fun x => { sc with release := x.toNat }) ∧
      (voice.toNat ≤ 3 →
        (id = 0x10 → v < 0 ∨ 4 < v → refused) ∧
          (∀ m, id = 0x10 → 0 ≤ v → [VoiceMode.off, .scale, .chord, .semitone, .drone][v.toNat]? = some m →
            let a := max (amountRange m).1 (min (amountRange m).2 rule.amount)
            edits (withRule { rule with mode := m, amount := a }) v (twoBytes (BitVec.ofInt 16 a)) (decide (a ≠ rule.amount))) ∧
          (id = 0x11 → number (amountRange rule.mode).1 (amountRange rule.mode).2
            fun x => withRule { rule with amount := x }) ∧
          (id = 0x12 →
            let r := repairRange v rule.high
            edits (withRule { rule with low := r.1, high := r.2 }) r.1 (twoBytes (BitVec.ofNat 16 r.2))
              (decide ((r.1 : Int) ≠ v ∨ r.2 ≠ rule.high))) ∧
          (id = 0x13 →
            let r := repairRange rule.low v
            edits (withRule { rule with low := r.1, high := r.2 }) r.2 (twoBytes (BitVec.ofNat 16 r.1))
              (decide ((r.2 : Int) ≠ v ∨ r.1 ≠ rule.low))) ∧
          (id = 0x14 → number (-50) 50 fun x => withRule { rule with detune := x }) ∧
          (id = 0x15 → number (-120) 12 fun x => withRule { rule with gain := x }) ∧
          (id = 0x16 → number (-50) 50 fun x => withRule { rule with pan := x }) ∧
          (id = 0x17 → v = 0 ∨ v = 1 →
            edits (withRule { rule with policy := if v = 1 then .hold else .mute }) v [0xFF, 0xFF] false) ∧
          (id = 0x17 → v ≠ 0 → v ≠ 1 → refused))

/-- OVERLAY ON, OVERLAY OFF and OVERLAY WRITE: the ordered refusals, the copy and the mapping, the detached mark, and the
follow record. -/
def Obligations.OverlayRequests : Prop :=
  ∀ (seq : Byte) (rest : List FifoEntry) (s : State),
    let source := s.working.origin.source
    let sourced := fun (src : OriginSource) =>
      ({ scene := s.working.scene, origin := { s.working.origin with source := src }, follow := none } : Working)
    (∀ b : Byte, s.Takes (.frame 0x58 seq [b]) rest →
      let refused := fun (c : ReplyCode) => exec (.overlayOn seq [b]) s = .next (s.answered rest (replyTo 0x58 seq c []))
      (7 < b.toNat → refused .badField) ∧ (b.toNat ≤ 7 → s.store.frozen = true → refused .frozen) ∧
        (b.toNat ≤ 7 → s.store.frozen = false → s.store.inFlight = true → refused .busy) ∧
        (b.toNat ≤ 7 → s.store.frozen = false → s.store.inFlight = false → ∃ o : Overlay,
          o.mapped = some b.toNat ∧ (∀ i, i < 8 → o.recordAt i = s.store.recordAt b.toNat i) ∧
            exec (.overlayOn seq [b]) s = .next ({ s with
              overlay := o
              working := sourced (match source with
                | .overlay b' i d => .overlay b' i (d || b' ≠ b.toNat)
                | other => other) }.answered rest
                (replyTo 0x58 seq .ok (b :: (List.range 8).map fun i => if (o.recordAt i).isSome then 1 else 0))))) ∧
      (s.Takes (.frame 0x59 seq []) rest →
        (s.overlay.mapped = none → exec (.overlayOff seq []) s = .next (s.answered rest (replyTo 0x59 seq .ok [0xFF]))) ∧
          ∀ b, s.overlay.mapped = some b → exec (.overlayOff seq []) s = .next ({ s with
            overlay := { s.overlay with mapped := none }
            working := sourced (match source with
              | .overlay b' i _ => .overlay b' i true
              | other => other) }.answered rest (replyTo 0x59 seq .ok [byteOfNat b]))) ∧
      ∀ (i : Byte) (p : List Byte), p.length = 58 → s.Takes (.frame 0x5A seq (i :: p)) rest →
        (7 < i.toNat ∨ parseScene p = none →
            exec (.overlayWrite seq (i :: p)) s = .next (s.answered rest (replyTo 0x5A seq .badField []))) ∧
          ∀ sc, i.toNat ≤ 7 → parseScene p = some sc → ∃ o : Overlay,
            o.mapped = s.overlay.mapped ∧
              (∀ j, o.recordAt j = if j = i.toNat then some sc else s.overlay.recordAt j) ∧
              exec (.overlayWrite seq (i :: p)) s = .next ({ s with
                overlay := o
                working := { s.working with follow := match source with
                  | .overlay _ j false => if j = i.toNat then some ⟨j, sc⟩ else s.working.follow
                  | _ => s.working.follow } }.answered rest (replyTo 0x5A seq .ok [if sc.bytes = p then 0 else 1]))

/-! ### The Cue Queue -/

/-- ENQUEUE CUE, its payload byte by byte and its length by its source byte: the refusal of its fields, the abort on a tag that
is held, the full queue, the slot that cannot be read, and the cue entered at the back. -/
def Obligations.CuesEnqueued : Prop :=
  ∀ (seq : Byte) (f : EnqueueFields) (rest : List FifoEntry) (s : State), s.cues.Ok →
    let payload := [f.tag, f.source, f.bank, f.slot, f.trigger, f.count, f.landing, f.deadline] ++ f.record
    (f.source = 0 → f.record.length = 0) → (f.source = 1 → f.record.length = 58) →
    (f.source ≠ 0 → f.source ≠ 1 → f.record.length = 0 ∨ f.record.length = 58) →
    s.Takes (.frame 0x40 seq payload) rest →
    let refused := fun (c : ReplyCode) => exec (.enqueueCue seq payload) s = .next (s.answered rest (replyTo 0x40 seq c []))
    let held := s.cues.queue.length
    let badSource := 1 < f.source.toNat ∨ (f.source = 0 ∧ (7 < f.bank.toNat ∨ 7 < f.slot.toNat)) ∨
      (f.source = 1 ∧ parseScene f.record = none)
    let bad := f.tag = 0 ∨ 2 < f.trigger.toNat ∨ 1 < f.landing.toNat ∨ badSource
    let clash := f.tag.toNat ∈ s.cues.queue.map (·.tag)
    let count := max 1 (min 64 f.count.toNat)
    let deadline := min 64 f.deadline.toNat
    let entered := fun (sc : Scene) (src : CueSource) (mark : Bool) =>
      let cue : Cue :=
        { tag := f.tag.toNat, scene := sc, source := src
          trigger := if f.trigger = 0 then .footswitch else if f.trigger = 1 then .beats count else .phrase
          landing := if f.landing = 0 then .atTrigger else .atPhrase, deadline := deadline
          state := if held = 0 then .armed else .queued }
      let clamped := mark || (f.trigger = 1 && count ≠ f.count.toNat) || deadline ≠ f.deadline.toNat
      exec (.enqueueCue seq payload) s = .next ({ s with cues := { s.cues with queue := s.cues.queue ++ [cue] } }.answered rest
        (replyTo 0x40 seq .ok [f.tag, byteOfNat (held + 1), if held = 0 then 1 else 0, byteOfNat (held + 1),
          if clamped then 1 else 0]))
    (bad → refused .badField) ∧
      (¬bad → clash → exec (.enqueueCue seq payload) s = .next ({ s with
        cues := { queue := [], counter := 0,
                  results := expectedResults s.cues.results s.cues.counter .queueAbort s.cues.queue }
        notices := noticesAfter s.notices .cueDiscarded s.cues.results.length held }.answered rest
          (replyTo 0x40 seq .duplicateTag [byteOfNat held]))) ∧
      (¬bad → ¬clash → held = 16 → refused .queueFull) ∧
      (¬bad → ¬clash → held < 16 →
        (∀ sc, f.source = 1 → parseScene f.record = some sc → entered sc .inline (sc.bytes ≠ f.record)) ∧
          (f.source = 0 →
            let b := f.bank.toNat
            let i := f.slot.toNat
            (s.overlay.mapped = some b → s.overlay.recordAt i = none → refused .notValid) ∧
              (∀ r, s.overlay.mapped = some b → s.overlay.recordAt i = some r → entered r (.slot b i) false) ∧
              (s.overlay.mapped ≠ some b → s.store.busyAt b i = true → refused .busy) ∧
              (s.overlay.mapped ≠ some b → s.store.busyAt b i = false → s.store.stateAt b i ≠ .valid → refused .notValid) ∧
              ∀ r, s.overlay.mapped ≠ some b → s.store.busyAt b i = false → s.store.recordAt b i = some r →
                entered r (.slot b i) false))

/-- BEAT: NOTHING on an empty queue; otherwise the counter rises and the head lands at its deadline, or is triggered at its
count, or goes on waiting. -/
def Obligations.BeatsCount : Prop :=
  ∀ (seq : Byte) (rest : List FifoEntry) (s : State), s.cues.Ok → s.Takes (.frame 0x46 seq []) rest →
    (s.cues.queue = [] → exec (.beat seq []) s = .next (s.answered rest (replyTo 0x46 seq .nothing []))) ∧
      ∀ c cs, s.cues.queue = c :: cs →
        let n := min 255 (s.cues.counter + 1)
        let counted : State := { s with cues := { s.cues with counter := n } }
        let answers := fun (t : State) (action how : Byte) => exec (.beat seq []) s =
          .next (t.answered rest (replyTo 0x46 seq .ok [byteOfNat c.tag, byteOfNat n, action, how]))
        let due := c.deadline ≠ 0 ∧ n = c.deadline
        let struck := c.state = .armed ∧ c.trigger = .beats n
        (due → answers (s.landed c cs n .deadline) 2 2) ∧
          (¬due → struck → c.landing = .atTrigger → answers (s.landed c cs n .trigger) 2 0) ∧
          (¬due → struck → c.landing = .atPhrase →
            answers { s with cues := { s.cues with counter := n, queue := { c with state := .landing } :: cs } } 1 0xFF) ∧
          (¬due → ¬struck → answers counted 0 0xFF)

/-- FIRE and PHRASE START at the head: trigger, landing, or nothing; neither changes the armed counter of a head that stays. When
the queue takes a PHRASE START, and that those that wait are counted, is log 8; the Notice Unit has received it at the frame
completion that raised it (FrameCompletionsRun). -/
def Obligations.FireAndPhraseStart : Prop :=
  (∀ (seq : Byte) (rest : List FifoEntry) (s : State), s.cues.Ok → s.Takes (.frame 0x41 seq []) rest →
      (s.cues.queue = [] → exec (.fire seq []) s = .next (s.answered rest (replyTo 0x41 seq .nothing []))) ∧
        ∀ c cs, s.cues.queue = c :: cs →
          let answers := fun (t : State) (action how : Byte) => exec (.fire seq []) s =
            .next (t.answered rest (replyTo 0x41 seq .ok [byteOfNat c.tag, action, how]))
          (c.state = .landing → answers (s.landed c cs s.cues.counter .forced) 2 3) ∧
            (c.state = .armed → c.landing = .atTrigger → answers (s.landed c cs s.cues.counter .trigger) 2 0) ∧
            (c.state = .armed → c.landing = .atPhrase →
              answers { s with cues := { s.cues with queue := { c with state := .landing } :: cs } } 1 0xFF)) ∧
    (∀ s : State, s.tracker.phraseStartsAwaiting = 0 → exec .phraseStart s = .next s) ∧
    ∀ s : State, s.cues.Ok → 0 < s.tracker.phraseStartsAwaiting →
      let takes := fun (t : State) => exec .phraseStart s = .next { t with
        tracker := { s.tracker with phraseStartsAwaiting := s.tracker.phraseStartsAwaiting - 1 } }
      (s.cues.queue = [] → takes s) ∧
        ∀ c cs, s.cues.queue = c :: cs →
          (c.state = .landing → takes (s.landed c cs s.cues.counter .phrase)) ∧
            (c.state = .armed → c.trigger = .phrase → c.landing = .atTrigger →
              takes (s.landed c cs s.cues.counter .trigger)) ∧
            (c.state = .armed → c.trigger = .phrase → c.landing = .atPhrase →
              takes { s with cues := { s.cues with queue := { c with state := .landing } :: cs } }) ∧
            (c.state = .armed → c.trigger ≠ .phrase → takes s)

/-- CANCEL CUE: the refusal of tag 0, NOT_FOUND, and the removal of the cue, the next one armed where it was the head. -/
def Obligations.CuesCancelled : Prop :=
  ∀ (seq t : Byte) (rest : List FifoEntry) (s : State), s.cues.Ok → s.Takes (.frame 0x42 seq [t]) rest →
    (t = 0 → exec (.cancelCue seq [t]) s = .next (s.answered rest (replyTo 0x42 seq .badField []))) ∧
      (t ≠ 0 → t.toNat ∉ s.cues.queue.map (·.tag) →
        exec (.cancelCue seq [t]) s = .next (s.answered rest (replyTo 0x42 seq .notFound []))) ∧
      ∀ before c after, s.cues.queue = before ++ c :: after → c.tag = t.toNat → t ≠ 0 →
        exec (.cancelCue seq [t]) s = .next ({ s with
          cues := { queue := if before = [] then armedRest after else before ++ after
                    counter := if before = [] then 0 else s.cues.counter
                    results := expectedResults s.cues.results s.cues.counter .cancelled [c] }
          notices := noticesAfter s.notices .cueDiscarded s.cues.results.length 1 }.answered rest
            (replyTo 0x42 seq .ok [t, match c.state with
              | .queued => 0
              | .armed => 1
              | .landing => 2, byteOfNat (before.length + after.length)]))

/-! ### The Scene Store -/

/-- PROGRAM SLOT, ERASE BANK and FREEZE STORE: the checks in their order, and the operation record or the flag they leave. That
nothing has been counted of the new operation, time or pulses, is said in the model's own fields (log 7). -/
def Obligations.StoreRequests : Prop :=
  (∀ st : SceneStore, st.inFlight = true ↔ ∃ o, st.op = some o ∧ o.status = .inFlight) ∧
  ∀ (seq : Byte) (rest : List FifoEntry) (s : State),
    let st := s.store
    let refusal : Option ReplyCode :=
      if st.latch = true then some .storeFault else if st.frozen = true then some .frozen
      else if s.overlay.mapped ≠ none then some .overlayActive else if st.inFlight = true then some .busy
      else if st.supplyHigh = false then some .lowSupply else none
    (∀ (b i : Byte) (p : List Byte), p.length = 58 → s.Takes (.frame 0x51 seq (b :: i :: p)) rest →
      let answers := fun (t : State) (c : ReplyCode) (bytes : List Byte) =>
        exec (.programSlot seq (b :: i :: p)) s = .next (t.answered rest (replyTo 0x51 seq c bytes))
      (7 < b.toNat ∨ 7 < i.toNat ∨ parseScene p = none → answers s .badField []) ∧
        ∀ sc, b.toNat ≤ 7 → i.toNat ≤ 7 → parseScene p = some sc →
          (∀ c, refusal = some c → answers s c []) ∧
            (refusal = none → st.stateAt b.toNat i.toNat ≠ .blank → answers s .notBlank []) ∧
            (refusal = none → st.stateAt b.toNat i.toNat = .blank → answers { s with store := { st with
                op := some { work := .program b.toNat i.toNat sc .mark, status := .inFlight, elapsedMicros := 0, pulses := 0,
                             pulsing := false, pulseMicros := 0 } } } .accepted [b, i, if sc.bytes = p then 0 else 1])) ∧
      (∀ b : Byte, s.Takes (.frame 0x52 seq [b]) rest →
        let answers := fun (t : State) (c : ReplyCode) (bytes : List Byte) =>
          exec (.eraseBank seq [b]) s = .next (t.answered rest (replyTo 0x52 seq c bytes))
        (7 < b.toNat → answers s .badField []) ∧ (∀ c, b.toNat ≤ 7 → refusal = some c → answers s c []) ∧
          (b.toNat ≤ 7 → refusal = none → answers { s with store := { st with
            op := some { work := .erase b.toNat (.mark 0), status := .inFlight, elapsedMicros := 0, pulses := 0,
                         pulsing := false, pulseMicros := 0 } } } .accepted [b])) ∧
      (s.Takes (.frame 0x54 seq []) rest →
        (st.inFlight = true → exec (.freezeStore seq []) s = .next (s.answered rest (replyTo 0x54 seq .busy []))) ∧
          (st.inFlight = false → exec (.freezeStore seq []) s =
            .next ({ s with store := { st with frozen := true } }.answered rest (replyTo 0x54 seq .ok []))))

/-- The pulses of an operation in flight, up to the timer's bound: the voltage starts a pulse, whose first marks the slot
INCOMPLETE; a verify advances, repeats or fails the write; the commit makes the slot VALID; the erase pulses blank the bank
or go on to the sixtieth. A slot stands in array and table at eight times its bank plus its number. How time is counted on the
operation is log 7: an event that ends a pulse adds what STORE STATUS has not counted of it. -/
def Obligations.StorePulses : Prop :=
  ((∀ (st : SceneStore) (b i : Nat) (x : Slot), i ≤ 7 →
      let r := st.setSlot b i x
      (∀ j : Fin 64, r.array[j] = (if j.val = 8 * b + i then x else st.array[j]) ∧
        r.table[j] = (if j.val = 8 * b + i then x.state else st.table[j])) ∧
        r.op = st.op ∧ r.latch = st.latch ∧ r.frozen = st.frozen ∧ r.supplyHigh = st.supplyHigh) ∧
    Slot.blank.state = .blank ∧ Slot.incomplete.state = .incomplete ∧ ∀ r, (Slot.valid r).state = .valid) ∧
  ∀ (s : State) (o : StoreOp) (micros : Nat) (verified : Bool), s.store.op = some o → o.status = .inFlight →
    let st := s.store
    let ended := fun (d : Nat) => { o with elapsedMicros := o.elapsedMicros + d, pulsing := false, pulseMicros := 0 }
    let goes := fun (d : Nat) => o.elapsedMicros + d ≤ 1500000
    let write := ended (120 - o.pulseMicros)
    let erase := ended (10500 - o.pulseMicros)
    let writes := ∀ b n, o.work ≠ .erase b (.pulse n)
    let goesOn := fun (w : StoreWork) => exec (.storePulseVerify true) s = .next { s with
      store := { st with op := some { write with work := w, pulses := 0 } } }
    let failed := fun (o' : StoreOp) => ({ s with
      store := { st with op := some { o' with status := .failed .verify }, latch := true }
      notices := if st.latch then s.notices.raise .storeFailed
        else (s.notices.raise .storeFailed).raise .storeFault } : State)
    (writes → o.pulsing = false → goes micros → exec (.programmingVoltageReady micros) s = .next { s with store :=
        { (match o.work with
            | .program b i _ .mark => st.setSlot b i .incomplete
            | .erase b (.mark i) => st.setSlot b i .incomplete
            | _ => st) with
          op := some { ended micros with pulses := o.pulses + 1, pulsing := true } } }) ∧
      (o.pulsing = true → goes (120 - o.pulseMicros) →
        (∀ b i r, o.work = .program b i r .mark → goesOn (.program b i r (.write 0))) ∧
          (∀ b i r n, o.work = .program b i r (.write n) → n < 28 → goesOn (.program b i r (.write (n + 1)))) ∧
          (∀ b i r, o.work = .program b i r (.write 28) → goesOn (.program b i r .commit)) ∧
          (∀ b i, o.work = .erase b (.mark i) → i < 7 → goesOn (.erase b (.mark (i + 1)))) ∧
          (∀ b, o.work = .erase b (.mark 7) → goesOn (.erase b (.prewrite 0 0))) ∧
          (∀ b i n, o.work = .erase b (.prewrite i n) → n < 29 → goesOn (.erase b (.prewrite i (n + 1)))) ∧
          (∀ b i, o.work = .erase b (.prewrite i 29) → i < 7 → goesOn (.erase b (.prewrite (i + 1) 0))) ∧
          (∀ b, o.work = .erase b (.prewrite 7 29) → goesOn (.erase b (.pulse 1))) ∧
          (∀ b i r, o.work = .program b i r .commit → exec (.storePulseVerify true) s = .next { s with
            store := { st.setSlot b i (.valid r) with op := some { write with status := .done } }
            notices := s.notices.raise .storeDone }) ∧
          (writes → o.pulses < 12 →
            exec (.storePulseVerify false) s = .next { s with store := { st with op := some write } }) ∧
          (writes → 12 ≤ o.pulses → exec (.storePulseVerify false) s = .next (failed write))) ∧
      ∀ b n, o.work = .erase b (.pulse n) → goes (10500 - o.pulseMicros) →
        (verified = false → n < 60 → exec (.erasePulseVerify verified) s = .next { s with
            store := { st with op := some { erase with work := .erase b (.pulse (n + 1)) } } }) ∧
          (verified = false → 60 ≤ n → exec (.erasePulseVerify verified) s = .next (failed erase)) ∧
          (verified = true → b ≤ 7 → ∃ st' : SceneStore,
            (∀ i : Fin 64, st'.array[i] = (if i.val / 8 = b then .blank else st.array[i]) ∧
              st'.table[i] = (if i.val / 8 = b then .blank else st.table[i])) ∧
            (st'.latch = st.latch ∧ st'.frozen = st.frozen ∧ st'.supplyHigh = st.supplyHigh) ∧
            st'.op = some { erase with status := .done } ∧
            exec (.erasePulseVerify verified) s = .next { s with store := st', notices := s.notices.raise .storeDone })

/-- Timer expiry and supply loss abandon the operation in flight, its phase, its progress and its slots as they stand;
without one the sense alone changes. So does any event that comes after the timer's bound: the operation has then been
abandoned at 1,500 ms, and a supply loss leaves only its sense. The restored supply changes the sense alone. How time is counted
on the operation is log 7; that TIMER_EXPIRY acts on any operation in flight, and on none does nothing, is log 23. -/
def Obligations.StoreAbandonment : Prop :=
  ∀ (s : State) (micros : Nat) (verified : Bool),
    let st := s.store
    (∀ o, st.op = some o → o.status = .inFlight →
        let writes := ∀ b n, o.work ≠ .erase b (.pulse n)
        let expired := fun (supplyHigh : Bool) => s.abandoned o .timer supplyHigh 1500000
        exec .timerExpiry s = .next (expired st.supplyHigh) ∧
          (o.elapsedMicros + o.counted micros ≤ 1500000 → exec (.supplyLoss micros) s =
            .next (s.abandoned o .supply false (o.elapsedMicros + o.counted micros))) ∧
          (1500000 < o.elapsedMicros + o.counted micros → exec (.supplyLoss micros) s = .next (expired false)) ∧
          (writes → o.pulsing = false → 1500000 < o.elapsedMicros + micros →
            exec (.programmingVoltageReady micros) s = .next (expired st.supplyHigh)) ∧
          (writes → o.pulsing = true → 1500000 < o.elapsedMicros + (120 - o.pulseMicros) →
            exec (.storePulseVerify verified) s = .next (expired st.supplyHigh)) ∧
          (∀ b n, o.work = .erase b (.pulse n) → 1500000 < o.elapsedMicros + (10500 - o.pulseMicros) →
            exec (.erasePulseVerify verified) s = .next (expired st.supplyHigh))) ∧
      (st.inFlight = false → exec .timerExpiry s = .next s ∧
        exec (.supplyLoss micros) s = .next { s with store := { st with supplyHigh := false } }) ∧
      exec .storeSupplyRestored s = .next { s with store := { st with supplyHigh := true } }

/-! ### The Notice Unit -/

/-- CLEAR NOTICES and CONFIGURE NOTICES, the raising of a source, and attention: ATTN is low exactly when some group's pending
and enabled sets meet and its level, but for group 0, exceeds the mask; and the group and the bit of every source. -/
def Obligations.NoticesAndAttention : Prop :=
  ([Source.storeFault, .audioClock, .linkOverrun, .cueLanded, .cueDiscarded, .resultsOverflow, .storeDone, .storeFailed,
      .phraseStart, .phraseEnd, .chordChanged, .chordUnrecognized, .setOverflow, .shortCrossfade, .clip, .outOfReach].map
        (fun src => (src.group.val, src.bit.toNat)) =
      [(0, 1), (0, 2), (0, 4), (1, 1), (1, 2), (1, 4), (2, 1), (2, 2), (3, 1), (3, 2), (4, 1), (4, 2), (4, 4), (5, 1), (5, 2),
        (5, 4)] ∧
    ∀ u : Notices, u.enabledOf 0 = 7 ∧ u.levelOf 0 = 8 ∧
      ∀ i : Fin 5, u.enabledOf i.succ = u.enabled[i] ∧ u.levelOf i.succ = u.levels[i]) ∧
  (∀ (seq g set : Byte) (rest : List FifoEntry) (s : State), s.Takes (.frame 0x61 seq [g, set]) rest →
      (5 < g.toNat → exec (.clearNotices seq [g, set]) s = .next (s.answered rest (replyTo 0x61 seq .badField []))) ∧
        ∀ h : g.toNat < 6, exec (.clearNotices seq [g, set]) s = .next ({ s with notices := { s.notices with
          pending := s.notices.pending.set g.toNat (s.notices.pending[g.toNat] &&& ~~~(set.extractLsb' 0 3)) } }.answered rest
            (replyTo 0x61 seq .ok []))) ∧
    (∀ (seq : Byte) (p : List Byte) (rest : List FifoEntry) (s : State), p.length = 11 → s.Takes (.frame 0x62 seq p) rest →
      ∃ u : Notices, u.pending = s.notices.pending ∧ (∀ i : Fin 5, u.levels[i] = min 7 (byteAt p i).toNat) ∧
        (∀ i : Fin 5, u.enabled[i] = (byteAt p (5 + i)).extractLsb' 0 3 &&& (if i = 1 ∨ i = 2 then 3 else 7)) ∧
        u.mask = min 7 (byteAt p 10).toNat ∧
        exec (.configureNotices seq p) s = .next ({ s with notices := u }.answered rest (replyTo 0x62 seq .ok
          (u.levels.toList.map byteOfNat ++ u.enabled.toList.map (fun (x : NoticeSet) => x.zeroExtend 8) ++ [byteOfNat u.mask])))) ∧
    (∀ u : Notices, u.attnLow = true ↔ ∃ g : Fin 6, u.pending[g] &&& u.enabledOf g ≠ 0 ∧ (g = 0 ∨ u.mask < u.levelOf g)) ∧
    ∀ (u : Notices) (src other : Source), (u.raise src).isPending src = true ∧
      (∀ g : Fin 6, (u.raise src).pending[g] = if g = src.group then u.pending[g] ||| src.bit else u.pending[g]) ∧
      (src ≠ other → (u.raise src).isPending other = u.isPending other) ∧
      (u.raise src).enabled = u.enabled ∧ (u.raise src).levels = u.levels ∧ (u.raise src).mask = u.mask

/-! ### What every step keeps -/

/-- The law of the Cue Queue is kept by every step. -/
def Obligations.CueQueueLawKept : Prop := ∀ s t : State, s.cues.Ok → step s = .next t → t.cues.Ok

/-- The law of the Key Context Unit is kept by every step. -/
def Obligations.KeyContextLawKept : Prop := ∀ s t : State, s.key.Ok → step s = .next t → t.key.Ok

/-- The laws of the Scene Store, one operation at most and none beside freeze, latch or overlay, are kept by every step. The bound on the time counted of a
pulse is the model's (log 7). -/
def Obligations.StoreLawsKept : Prop := ∀ s t : State, s.StoreOk → step s = .next t → t.StoreOk

/-- The bounds of the request FIFO and the reply queue are kept by every step. -/
def Obligations.LinkBoundsKept : Prop := ∀ s t : State, s.LinkOk → step s = .next t → t.LinkOk

/-- Every scene record the part holds stays within the ranges of a checked record. -/
def Obligations.SceneRecordsStayChecked : Prop := ∀ s t : State, s.ScenesOk → step s = .next t → t.ScenesOk

/-- The laws of tracker, planner and Shift Engine are kept by every step: the ring's canonical form, an active head's lag
within 96..1536 and a fading head's within 1..4095 among them. The ring's form is the model's (log 9). -/
def Obligations.AudioLawsKept : Prop := ∀ s t : State, s.AudioOk → step s = .next t → t.AudioOk

/-- The laws of the clock, of live follow, of the origin and of the notice sets are kept by every step. -/
def Obligations.ClockFollowAndNoticeLawsKept : Prop :=
  (∀ s t : State, s.ClockOk → step s = .next t → t.ClockOk) ∧ (∀ s t : State, s.FollowOk → step s = .next t → t.FollowOk) ∧
    (∀ s t : State, s.cues.Ok → s.working.origin.source.Ok = true → step s = .next t → t.working.origin.source.Ok = true) ∧
    ∀ s t : State, s.notices.Ok → step s = .next t → t.notices.Ok
end

