-- ==== Sys2Proof/Laws/Arith.lean ====
section
/-! SUPPORT. Clamps, whole roots and logarithms: what each answers, said once. -/

namespace Sys2Proof.Machine

/-! ### Clamps -/

theorem le_clampInt {lo hi : Int} (h : lo ≤ hi) (x : Int) : lo ≤ clampInt lo hi x := by
  unfold clampInt; split <;> (try split) <;> omega

theorem clampInt_le {lo hi : Int} (h : lo ≤ hi) (x : Int) : clampInt lo hi x ≤ hi := by
  unfold clampInt; split <;> (try split) <;> omega

theorem clampInt_eq {lo hi x : Int} (h1 : lo ≤ x) (h2 : x ≤ hi) : clampInt lo hi x = x := by
  unfold clampInt; split <;> (try split) <;> omega

theorem le_clampNat {lo hi : Nat} (h : lo ≤ hi) (x : Nat) : lo ≤ clampNat lo hi x := by
  unfold clampNat; split <;> (try split) <;> omega

theorem clampNat_le {lo hi : Nat} (h : lo ≤ hi) (x : Nat) : clampNat lo hi x ≤ hi := by
  unfold clampNat; split <;> (try split) <;> omega

theorem clampNat_eq {lo hi x : Nat} (h1 : lo ≤ x) (h2 : x ≤ hi) : clampNat lo hi x = x := by
  unfold clampNat; split <;> (try split) <;> omega

/-! ### Rounding -/

/-- The rounded quotient lies within a half of the exact one. -/
theorem roundDiv_near (n : Int) {d : Nat} (hd : 0 < d) :
    2 * n - d ≤ 2 * d * roundDiv n d ∧ 2 * d * roundDiv n d ≤ 2 * n + d := by
  have hd' : (0 : Int) < 2 * d := by omega
  unfold roundDiv
  split
  · have h1 := Int.mul_ediv_add_emod (2 * n + d) (2 * d)
    have h2 := Int.emod_nonneg (2 * n + d) hd'.ne'
    have h3 := Int.emod_lt_of_pos (2 * n + d) hd'
    constructor <;> linarith
  · have h1 := Int.mul_ediv_add_emod (2 * -n + d) (2 * d)
    have h2 := Int.emod_nonneg (2 * -n + d) hd'.ne'
    have h3 := Int.emod_lt_of_pos (2 * -n + d) hd'
    constructor <;> linarith

/-! ### Whole roots -/

theorem rootFrom_spec {k n : Nat} {bits acc : Nat} (h1 : acc ^ k ≤ n) (h2 : n < (acc + 2 ^ bits) ^ k) :
    (rootFrom k n bits acc) ^ k ≤ n ∧ n < (rootFrom k n bits acc + 1) ^ k := by
  induction bits generalizing acc with
  | zero => exact ⟨h1, by simpa [rootFrom] using h2⟩
  | succ b ih =>
    unfold rootFrom
    split
    · next h =>
      refine ih h (h2.trans_le (Nat.pow_le_pow_left ?_ _))
      rw [pow_succ]; omega
    · next h => exact ih h1 (by omega)

/-- The whole root: its power is at most the number, and the next one's above it. -/
theorem floorRoot_spec {k n bits : Nat} (hk : 0 < k) (h : n < (2 ^ bits) ^ k) :
    (floorRoot k n bits) ^ k ≤ n ∧ n < (floorRoot k n bits + 1) ^ k :=
  rootFrom_spec (by simp [hk.ne']) (by simpa using h)

/-- A number whose power is at most `n` is at most the whole root. -/
theorem le_floorRoot {k n bits m : Nat} (hk : 0 < k) (h : n < (2 ^ bits) ^ k) (hm : m ^ k ≤ n) : m ≤ floorRoot k n bits := by
  have := (floorRoot_spec hk h).2
  by_contra hc
  exact absurd (Nat.pow_le_pow_left (by omega : floorRoot k n bits + 1 ≤ m) k) (by omega)

/-- A number whose power is above `n` is above the whole root. -/
theorem floorRoot_lt {k n bits m : Nat} (hk : 0 < k) (h : n < (2 ^ bits) ^ k) (hm : n < m ^ k) : floorRoot k n bits < m := by
  have := (floorRoot_spec hk h).1
  by_contra hc
  exact absurd (Nat.pow_le_pow_left (by omega : m ≤ floorRoot k n bits) k) (by omega)

/-! ### Logarithms -/

theorem shiftFrom_spec {b n : Nat} {bits acc : Nat} (h1 : b * 2 ^ acc ≤ n) (h2 : n < b * 2 ^ (acc + 2 ^ bits)) :
    b * 2 ^ shiftFrom b n bits acc ≤ n ∧ n < b * 2 ^ (shiftFrom b n bits acc + 1) := by
  induction bits generalizing acc with
  | zero => exact ⟨h1, by simpa [shiftFrom] using h2⟩
  | succ bits ih =>
    unfold shiftFrom
    split
    · next h => exact ih h (by rwa [pow_succ, mul_two, ← Nat.add_assoc] at h2)
    · next h => exact ih h1 (by omega)

/-- The whole logarithm: with `k` its value plus 16384, `a / b` lies from `2 ^ (k - 16384)` up to the next power. -/
theorem floorLog2Ratio_spec {a b : Nat} (h1 : b ≤ a * 2 ^ 16384) (h2 : a < b * 2 ^ 16384) :
    ∃ k : Nat, floorLog2Ratio a b = (k : Int) - 16384 ∧ b * 2 ^ k ≤ a * 2 ^ 16384 ∧ a * 2 ^ 16384 < b * 2 ^ (k + 1) := by
  refine ⟨_, rfl, shiftFrom_spec (by rw [pow_zero, mul_one]; exact h1) ?_⟩
  have e : 0 + 2 ^ 15 = 16384 + 16384 := rfl
  rw [e, pow_add, ← mul_assoc]
  exact Nat.mul_lt_mul_of_pos_right h2 (by positivity)

/-! ### The ratio (R68) -/

/-- The ratio is the rounding of `8192 * 2 ^ (shift / 1200)`, and lies within 2048..32768 (R68). -/
theorem ratioOf_spec {shift : Int} (h1 : -2400 ≤ shift) (h2 : shift ≤ 2400) :
    (2 * ratioOf shift - 1) ^ 1200 ≤ 2 ^ (16800 + shift).toNat ∧ 2 ^ (16800 + shift).toNat < (2 * ratioOf shift + 1) ^ 1200 ∧
      2048 ≤ ratioOf shift ∧ ratioOf shift ≤ 32768 := by
  obtain ⟨e, he⟩ : ∃ e : Nat, (16800 + shift).toNat = e := ⟨_, rfl⟩
  have e1 : 14400 ≤ e := by omega
  have e2 : e ≤ 19200 := by omega
  have hk : ∀ k, e < 17 * k → 2 ^ e < (2 ^ 17) ^ k := fun k h => by
    rw [← pow_mul]; exact Nat.pow_lt_pow_right Nat.one_lt_two h
  have hn := hk 1200 (by omega)
  have hr : ratioOf shift = (floorRoot 1200 (2 ^ e) 17 + 1) / 2 := by unfold ratioOf; rw [he]
  obtain ⟨s1, s2⟩ := floorRoot_spec (by norm_num : 0 < 1200) hn
  have lo : 2 ^ 12 ≤ floorRoot 1200 (2 ^ e) 17 :=
    le_floorRoot (by norm_num) hn (by rw [← pow_mul]; exact Nat.pow_le_pow_right (by norm_num) (by omega))
  have hi : floorRoot 1200 (2 ^ e) 17 < 2 ^ 16 + 1 :=
    floorRoot_lt (by norm_num) hn
      (lt_of_le_of_lt (Nat.pow_le_pow_right (by norm_num) e2)
        (by rw [show 19200 = 16 * 1200 from rfl, pow_mul]; exact Nat.pow_lt_pow_left (by norm_num) (by norm_num)))
  rw [he]
  generalize floorRoot 1200 (2 ^ e) 17 = f at *
  refine ⟨(Nat.pow_le_pow_left (by omega) _).trans s1, s2.trans_le (Nat.pow_le_pow_left (by omega) _), by omega, by omega⟩

end Sys2Proof.Machine
end

