-- ==== Sys2Proof/Laws/State.lean ====
section
/-! SUPPORT. What each shared update of the state leaves of every field: one lemma per field. -/

namespace Sys2Proof.Machine

/-! ### Raising a notice: the Notice Unit alone changes -/

@[simp] theorem State.raise_notices (s : State) (src : Source) : (s.raise src).notices = s.notices.raise src := rfl

@[simp] theorem State.raise_tracker (s : State) (src : Source) : (s.raise src).tracker = s.tracker := rfl
@[simp] theorem State.raise_key (s : State) (src : Source) : (s.raise src).key = s.key := rfl
@[simp] theorem State.raise_planner (s : State) (src : Source) : (s.raise src).planner = s.planner := rfl
@[simp] theorem State.raise_engine (s : State) (src : Source) : (s.raise src).engine = s.engine := rfl
@[simp] theorem State.raise_port (s : State) (src : Source) : (s.raise src).port = s.port := rfl
@[simp] theorem State.raise_mixer (s : State) (src : Source) : (s.raise src).mixer = s.mixer := rfl
@[simp] theorem State.raise_working (s : State) (src : Source) : (s.raise src).working = s.working := rfl
@[simp] theorem State.raise_overlay (s : State) (src : Source) : (s.raise src).overlay = s.overlay := rfl
@[simp] theorem State.raise_cues (s : State) (src : Source) : (s.raise src).cues = s.cues := rfl
@[simp] theorem State.raise_store (s : State) (src : Source) : (s.raise src).store = s.store := rfl
@[simp] theorem State.raise_link (s : State) (src : Source) : (s.raise src).link = s.link := rfl
@[simp] theorem State.raise_start (s : State) (src : Source) : (s.raise src).start = s.start := rfl
@[simp] theorem State.raise_pending (s : State) (src : Source) : (s.raise src).pending = s.pending := rfl

@[simp] theorem State.raiseIf_true (s : State) (src : Source) : s.raiseIf true src = s.raise src := rfl
@[simp] theorem State.raiseIf_false (s : State) (src : Source) : s.raiseIf false src = s := rfl
/-- All that raising a source under a condition does. -/
theorem State.raiseIf_eq (s : State) (c : Bool) (src : Source) :
    s.raiseIf c src = { s with notices := if c then s.notices.raise src else s.notices } := by
  cases c <;> rfl
theorem State.raiseIf_notices (s : State) (c : Bool) (src : Source) :
    (s.raiseIf c src).notices = if c then s.notices.raise src else s.notices := by
  cases c <;> rfl

@[simp] theorem State.raiseIf_tracker (s : State) (c : Bool) (src : Source) : (s.raiseIf c src).tracker = s.tracker := by
  cases c <;> rfl
@[simp] theorem State.raiseIf_key (s : State) (c : Bool) (src : Source) : (s.raiseIf c src).key = s.key := by
  cases c <;> rfl
@[simp] theorem State.raiseIf_planner (s : State) (c : Bool) (src : Source) : (s.raiseIf c src).planner = s.planner := by
  cases c <;> rfl
@[simp] theorem State.raiseIf_engine (s : State) (c : Bool) (src : Source) : (s.raiseIf c src).engine = s.engine := by
  cases c <;> rfl
@[simp] theorem State.raiseIf_port (s : State) (c : Bool) (src : Source) : (s.raiseIf c src).port = s.port := by
  cases c <;> rfl
@[simp] theorem State.raiseIf_mixer (s : State) (c : Bool) (src : Source) : (s.raiseIf c src).mixer = s.mixer := by
  cases c <;> rfl
@[simp] theorem State.raiseIf_working (s : State) (c : Bool) (src : Source) : (s.raiseIf c src).working = s.working := by
  cases c <;> rfl
@[simp] theorem State.raiseIf_overlay (s : State) (c : Bool) (src : Source) : (s.raiseIf c src).overlay = s.overlay := by
  cases c <;> rfl
@[simp] theorem State.raiseIf_cues (s : State) (c : Bool) (src : Source) : (s.raiseIf c src).cues = s.cues := by
  cases c <;> rfl
@[simp] theorem State.raiseIf_store (s : State) (c : Bool) (src : Source) : (s.raiseIf c src).store = s.store := by
  cases c <;> rfl
@[simp] theorem State.raiseIf_link (s : State) (c : Bool) (src : Source) : (s.raiseIf c src).link = s.link := by
  cases c <;> rfl
@[simp] theorem State.raiseIf_start (s : State) (c : Bool) (src : Source) : (s.raiseIf c src).start = s.start := by
  cases c <;> rfl
@[simp] theorem State.raiseIf_pending (s : State) (c : Bool) (src : Source) : (s.raiseIf c src).pending = s.pending := by
  cases c <;> rfl

/-! ### Queueing a reply: the reply queue alone changes -/

@[simp] theorem State.queueFrame_link (s : State) (f : ReplyFrame) :
    (s.queueFrame f).link = { s.link with replies := s.link.replies ++ [f] } := rfl

@[simp] theorem State.queueFrame_tracker (s : State) (f : ReplyFrame) : (s.queueFrame f).tracker = s.tracker := rfl
@[simp] theorem State.queueFrame_key (s : State) (f : ReplyFrame) : (s.queueFrame f).key = s.key := rfl
@[simp] theorem State.queueFrame_planner (s : State) (f : ReplyFrame) : (s.queueFrame f).planner = s.planner := rfl
@[simp] theorem State.queueFrame_engine (s : State) (f : ReplyFrame) : (s.queueFrame f).engine = s.engine := rfl
@[simp] theorem State.queueFrame_port (s : State) (f : ReplyFrame) : (s.queueFrame f).port = s.port := rfl
@[simp] theorem State.queueFrame_mixer (s : State) (f : ReplyFrame) : (s.queueFrame f).mixer = s.mixer := rfl
@[simp] theorem State.queueFrame_working (s : State) (f : ReplyFrame) : (s.queueFrame f).working = s.working := rfl
@[simp] theorem State.queueFrame_overlay (s : State) (f : ReplyFrame) : (s.queueFrame f).overlay = s.overlay := rfl
@[simp] theorem State.queueFrame_cues (s : State) (f : ReplyFrame) : (s.queueFrame f).cues = s.cues := rfl
@[simp] theorem State.queueFrame_store (s : State) (f : ReplyFrame) : (s.queueFrame f).store = s.store := rfl
@[simp] theorem State.queueFrame_notices (s : State) (f : ReplyFrame) : (s.queueFrame f).notices = s.notices := rfl
@[simp] theorem State.queueFrame_start (s : State) (f : ReplyFrame) : (s.queueFrame f).start = s.start := rfl
@[simp] theorem State.queueFrame_pending (s : State) (f : ReplyFrame) : (s.queueFrame f).pending = s.pending := rfl

@[simp] theorem State.answer_link (s : State) (kind seq : Byte) (r : Reply) :
    (s.answer kind seq r).link =
      { s.link with replies := s.link.replies ++ [⟨kind + 0x80, seq, some r.code.byte, r.payload⟩] } := rfl

@[simp] theorem State.answer_tracker (s : State) (kind seq : Byte) (r : Reply) : (s.answer kind seq r).tracker = s.tracker := rfl
@[simp] theorem State.answer_key (s : State) (kind seq : Byte) (r : Reply) : (s.answer kind seq r).key = s.key := rfl
@[simp] theorem State.answer_planner (s : State) (kind seq : Byte) (r : Reply) : (s.answer kind seq r).planner = s.planner := rfl
@[simp] theorem State.answer_engine (s : State) (kind seq : Byte) (r : Reply) : (s.answer kind seq r).engine = s.engine := rfl
@[simp] theorem State.answer_port (s : State) (kind seq : Byte) (r : Reply) : (s.answer kind seq r).port = s.port := rfl
@[simp] theorem State.answer_mixer (s : State) (kind seq : Byte) (r : Reply) : (s.answer kind seq r).mixer = s.mixer := rfl
@[simp] theorem State.answer_working (s : State) (kind seq : Byte) (r : Reply) : (s.answer kind seq r).working = s.working := rfl
@[simp] theorem State.answer_overlay (s : State) (kind seq : Byte) (r : Reply) : (s.answer kind seq r).overlay = s.overlay := rfl
@[simp] theorem State.answer_cues (s : State) (kind seq : Byte) (r : Reply) : (s.answer kind seq r).cues = s.cues := rfl
@[simp] theorem State.answer_store (s : State) (kind seq : Byte) (r : Reply) : (s.answer kind seq r).store = s.store := rfl
@[simp] theorem State.answer_notices (s : State) (kind seq : Byte) (r : Reply) : (s.answer kind seq r).notices = s.notices := rfl
@[simp] theorem State.answer_start (s : State) (kind seq : Byte) (r : Reply) : (s.answer kind seq r).start = s.start := rfl
@[simp] theorem State.answer_pending (s : State) (kind seq : Byte) (r : Reply) : (s.answer kind seq r).pending = s.pending := rfl

/-! ### Declaring the clock absent: port, engine state and notices change -/

@[simp] theorem State.declareAbsent_tracker (s : State) : s.declareAbsent.tracker = s.tracker := rfl
@[simp] theorem State.declareAbsent_key (s : State) : s.declareAbsent.key = s.key := rfl
@[simp] theorem State.declareAbsent_planner (s : State) : s.declareAbsent.planner = s.planner := rfl
@[simp] theorem State.declareAbsent_mixer (s : State) : s.declareAbsent.mixer = s.mixer := rfl
@[simp] theorem State.declareAbsent_working (s : State) : s.declareAbsent.working = s.working := rfl
@[simp] theorem State.declareAbsent_overlay (s : State) : s.declareAbsent.overlay = s.overlay := rfl
@[simp] theorem State.declareAbsent_cues (s : State) : s.declareAbsent.cues = s.cues := rfl
@[simp] theorem State.declareAbsent_store (s : State) : s.declareAbsent.store = s.store := rfl
@[simp] theorem State.declareAbsent_link (s : State) : s.declareAbsent.link = s.link := rfl
@[simp] theorem State.declareAbsent_start (s : State) : s.declareAbsent.start = s.start := rfl
@[simp] theorem State.declareAbsent_pending (s : State) : s.declareAbsent.pending = s.pending := rfl

/-! ### The clock's return: tracker, planner and mixer change, and the engine where it restarts -/

@[simp] theorem State.audioReturn_key (s : State) : s.audioReturn.key = s.key := rfl
@[simp] theorem State.audioReturn_engine (s : State) : s.audioReturn.engine = s.engine := rfl
@[simp] theorem State.audioReturn_port (s : State) : s.audioReturn.port = s.port := rfl
@[simp] theorem State.audioReturn_working (s : State) : s.audioReturn.working = s.working := rfl
@[simp] theorem State.audioReturn_overlay (s : State) : s.audioReturn.overlay = s.overlay := rfl
@[simp] theorem State.audioReturn_cues (s : State) : s.audioReturn.cues = s.cues := rfl
@[simp] theorem State.audioReturn_store (s : State) : s.audioReturn.store = s.store := rfl
@[simp] theorem State.audioReturn_link (s : State) : s.audioReturn.link = s.link := rfl
@[simp] theorem State.audioReturn_notices (s : State) : s.audioReturn.notices = s.notices := rfl
@[simp] theorem State.audioReturn_start (s : State) : s.audioReturn.start = s.start := rfl
@[simp] theorem State.audioReturn_pending (s : State) : s.audioReturn.pending = s.pending := rfl

@[simp] theorem State.clockReturn_key (s : State) : s.clockReturn.key = s.key := rfl
@[simp] theorem State.clockReturn_port (s : State) : s.clockReturn.port = s.port := rfl
@[simp] theorem State.clockReturn_working (s : State) : s.clockReturn.working = s.working := rfl
@[simp] theorem State.clockReturn_overlay (s : State) : s.clockReturn.overlay = s.overlay := rfl
@[simp] theorem State.clockReturn_cues (s : State) : s.clockReturn.cues = s.cues := rfl
@[simp] theorem State.clockReturn_store (s : State) : s.clockReturn.store = s.store := rfl
@[simp] theorem State.clockReturn_link (s : State) : s.clockReturn.link = s.link := rfl
@[simp] theorem State.clockReturn_notices (s : State) : s.clockReturn.notices = s.notices := rfl
@[simp] theorem State.clockReturn_start (s : State) : s.clockReturn.start = s.start := rfl
@[simp] theorem State.clockReturn_pending (s : State) : s.clockReturn.pending = s.pending := rfl

end Sys2Proof.Machine
end

