-- ==== Sys2Proof/Laws/Link.lean ====
section
/-! SUPPORT. What taking an entry, dispatching a request and offering an entry can do, said once. -/

namespace Sys2Proof.Machine

/-- An entry is taken exactly where it stands at the front, the part is up, no RESET has been taken and the reply queue has
room; it then leaves the FIFO and nothing else changes (R169, R172, R173). -/
theorem State.take_eq_some {s s1 : State} {e : FifoEntry} :
    s.take e = some s1 ↔
      (s.start.phase = .up ∧ s.link.stopped = false ∧ s.link.replies.length < 4 ∧ s.link.fifo.head? = some e) ∧
        s1 = { s with link := { s.link with fifo := s.link.fifo.tail } } := by
  unfold State.take
  split
  · next h => exact ⟨fun e => ⟨h, (Option.some.inj e).symm⟩, fun e => congrArg some e.2.symm⟩
  · next h => exact ⟨fun e => (nomatch e), fun e => absurd e.1 h⟩

/-- The front entry of a FIFO that can be dispatched is taken. -/
theorem State.take_front {s : State} {e : FifoEntry} {rest : List FifoEntry} (hp : s.start.phase = .up)
    (hs : s.link.stopped = false) (hr : s.link.replies.length < 4) (hf : s.link.fifo = e :: rest) :
    s.take e = some { s with link := { s.link with fifo := rest } } := by
  simp [State.take, hp, hs, hr, hf]

/-- Dispatch leaves a request that cannot be taken, answers BAD_LENGTH, or carries out the block's work and answers (R170). -/
theorem dispatch_cases {α : Type} (kind seq : Byte) (payload : List Byte) (parse : List Byte → Option α)
    (work : α → State → State × Reply) (s : State) :
    (s.take (.frame kind seq payload) = none ∧ dispatch kind seq payload parse work s = s) ∨
      ∃ s1, s.take (.frame kind seq payload) = some s1 ∧
        ((parse payload = none ∧ dispatch kind seq payload parse work s = s1.answer kind seq (.bare .badLength)) ∨
          ∃ a, parse payload = some a ∧
            dispatch kind seq payload parse work s = ((work a s1).1).answer kind seq (work a s1).2) := by
  unfold dispatch
  cases h : s.take (.frame kind seq payload) with
  | none => exact .inl ⟨rfl, rfl⟩
  | some s1 =>
    refine .inr ⟨s1, rfl, ?_⟩
    cases hp : parse payload with
    | none => exact .inl ⟨rfl, rfl⟩
    | some a => exact .inr ⟨a, rfl, rfl⟩

/-- A dispatched request whose payload has its length: the work on the state without the entry, then the reply (R170). -/
theorem dispatch_taken {α : Type} {kind seq : Byte} {payload : List Byte} {parse : List Byte → Option α}
    {work : α → State → State × Reply} {s : State} {rest : List FifoEntry} {a : α} (hp : s.start.phase = .up)
    (hs : s.link.stopped = false) (hr : s.link.replies.length < 4) (hf : s.link.fifo = .frame kind seq payload :: rest)
    (ha : parse payload = some a) :
    dispatch kind seq payload parse work s =
      ((work a { s with link := { s.link with fifo := rest } }).1).answer kind seq
        (work a { s with link := { s.link with fifo := rest } }).2 := by
  simp [dispatch, State.take_front hp hs hr hf, ha]

/-- A property that no change of the link touches is kept by a dispatch whose work keeps it. -/
theorem dispatch_keeps {α : Type} {P : State → Prop} (hlink : ∀ (s : State) (l : Link), P s → P { s with link := l })
    {kind seq : Byte} {payload : List Byte} {parse : List Byte → Option α} {work : α → State → State × Reply}
    (hwork : ∀ a s, P s → P (work a s).1) {s : State} (h : P s) : P (dispatch kind seq payload parse work s) := by
  rcases dispatch_cases kind seq payload parse work s with ⟨-, h1⟩ | ⟨s1, ht, ⟨-, h1⟩ | ⟨a, -, h1⟩⟩
  · rw [h1]; exact h
  all_goals
    rw [h1]
    obtain ⟨-, rfl⟩ := State.take_eq_some.mp ht
    apply hlink
  · exact hlink _ _ h
  · exact hwork _ _ (hlink _ _ h)

/-- A reading request changes no property that the link does not touch. -/
theorem dispatchRead_keeps {α : Type} {P : State → Prop} (hlink : ∀ (s : State) (l : Link), P s → P { s with link := l })
    {kind seq : Byte} {payload : List Byte} {parse : List Byte → Option α} {report : α → State → Reply} {s : State}
    (h : P s) : P (dispatchRead kind seq payload parse report s) :=
  dispatch_keeps hlink (fun _ _ h => h) h

/-- An entry offered to a FIFO with room joins at the back (R169). -/
theorem State.offer_room {s : State} (e : FifoEntry) (h : s.link.fifo.length < 4) :
    s.offer e = { s with link := { s.link with fifo := s.link.fifo ++ [e] } } := by
  simp [State.offer, h]

/-- An entry offered to a full FIFO is dropped with LINK OVERRUN (R169). -/
theorem State.offer_full {s : State} (e : FifoEntry) (h : ¬ s.link.fifo.length < 4) : s.offer e = s.raise .linkOverrun := by
  simp [State.offer, h]

end Sys2Proof.Machine
end

