-- ==== Sys2Proof/Laws/Cues.lean ====
section
/-! SUPPORT. The Cue Queue's shared operations: what a removal, a landing and a trigger change, said once. -/

namespace Sys2Proof.Machine

/-! ### Recording a removal: the results list and the notices change -/

/-- The results after recorded removals: each removed cue's entry joins, the head's with its counter (R149). -/
def resultsAfter (q : CueQueue) (o : CueOutcome) (cs : List Cue) : List CueResult :=
  cs.foldl (fun rs c => addResult rs ⟨c.tag, o, c.state, c.resultCounter q.counter, false⟩) q.results

@[simp] theorem State.recordRemoval_cues (s : State) (c : Cue) (o : CueOutcome) :
    (s.recordRemoval c o).cues =
      { s.cues with results := addResult s.cues.results ⟨c.tag, o, c.state, c.resultCounter s.cues.counter, false⟩ } := by
  simp [State.recordRemoval]

@[simp] theorem State.recordRemoval_tracker (s : State) (c : Cue) (o : CueOutcome) : (s.recordRemoval c o).tracker = s.tracker := by
  simp [State.recordRemoval]
@[simp] theorem State.recordRemoval_key (s : State) (c : Cue) (o : CueOutcome) : (s.recordRemoval c o).key = s.key := by
  simp [State.recordRemoval]
@[simp] theorem State.recordRemoval_planner (s : State) (c : Cue) (o : CueOutcome) : (s.recordRemoval c o).planner = s.planner := by
  simp [State.recordRemoval]
@[simp] theorem State.recordRemoval_engine (s : State) (c : Cue) (o : CueOutcome) : (s.recordRemoval c o).engine = s.engine := by
  simp [State.recordRemoval]
@[simp] theorem State.recordRemoval_port (s : State) (c : Cue) (o : CueOutcome) : (s.recordRemoval c o).port = s.port := by
  simp [State.recordRemoval]
@[simp] theorem State.recordRemoval_mixer (s : State) (c : Cue) (o : CueOutcome) : (s.recordRemoval c o).mixer = s.mixer := by
  simp [State.recordRemoval]
@[simp] theorem State.recordRemoval_working (s : State) (c : Cue) (o : CueOutcome) : (s.recordRemoval c o).working = s.working := by
  simp [State.recordRemoval]
@[simp] theorem State.recordRemoval_overlay (s : State) (c : Cue) (o : CueOutcome) : (s.recordRemoval c o).overlay = s.overlay := by
  simp [State.recordRemoval]
@[simp] theorem State.recordRemoval_store (s : State) (c : Cue) (o : CueOutcome) : (s.recordRemoval c o).store = s.store := by
  simp [State.recordRemoval]
@[simp] theorem State.recordRemoval_link (s : State) (c : Cue) (o : CueOutcome) : (s.recordRemoval c o).link = s.link := by
  simp [State.recordRemoval]
@[simp] theorem State.recordRemoval_start (s : State) (c : Cue) (o : CueOutcome) : (s.recordRemoval c o).start = s.start := by
  simp [State.recordRemoval]
@[simp] theorem State.recordRemoval_pending (s : State) (c : Cue) (o : CueOutcome) : (s.recordRemoval c o).pending = s.pending := by
  simp [State.recordRemoval]

/-! ### Removing every cue -/

theorem State.foldRemoval (cs : List Cue) (o : CueOutcome) (s : State) :
    (cs.foldl (fun acc c => acc.recordRemoval c o) s).cues = { s.cues with results := resultsAfter s.cues o cs } := by
  induction cs generalizing s with
  | nil => rfl
  | cons c rest ih => simp [ih, resultsAfter]

/-- Removing every cue leaves the queue empty, the counter 0, and one entry for each cue in queue order (R141, R146, R147). -/
@[simp] theorem State.removeAll_cues (s : State) (o : CueOutcome) :
    (s.removeAll o).cues = { queue := [], counter := 0, results := resultsAfter s.cues o s.cues.queue } := by
  simp [State.removeAll, State.foldRemoval]

theorem State.foldRemoval_tracker (cs : List Cue) (o : CueOutcome) (s : State) :
    (cs.foldl (fun acc c => acc.recordRemoval c o) s).tracker = s.tracker := by
  induction cs generalizing s with
  | nil => rfl
  | cons c rest ih => simp [ih]
@[simp] theorem State.removeAll_tracker (s : State) (o : CueOutcome) : (s.removeAll o).tracker = s.tracker :=
  State.foldRemoval_tracker _ _ _
theorem State.foldRemoval_key (cs : List Cue) (o : CueOutcome) (s : State) :
    (cs.foldl (fun acc c => acc.recordRemoval c o) s).key = s.key := by
  induction cs generalizing s with
  | nil => rfl
  | cons c rest ih => simp [ih]
@[simp] theorem State.removeAll_key (s : State) (o : CueOutcome) : (s.removeAll o).key = s.key :=
  State.foldRemoval_key _ _ _
theorem State.foldRemoval_planner (cs : List Cue) (o : CueOutcome) (s : State) :
    (cs.foldl (fun acc c => acc.recordRemoval c o) s).planner = s.planner := by
  induction cs generalizing s with
  | nil => rfl
  | cons c rest ih => simp [ih]
@[simp] theorem State.removeAll_planner (s : State) (o : CueOutcome) : (s.removeAll o).planner = s.planner :=
  State.foldRemoval_planner _ _ _
theorem State.foldRemoval_engine (cs : List Cue) (o : CueOutcome) (s : State) :
    (cs.foldl (fun acc c => acc.recordRemoval c o) s).engine = s.engine := by
  induction cs generalizing s with
  | nil => rfl
  | cons c rest ih => simp [ih]
@[simp] theorem State.removeAll_engine (s : State) (o : CueOutcome) : (s.removeAll o).engine = s.engine :=
  State.foldRemoval_engine _ _ _
theorem State.foldRemoval_port (cs : List Cue) (o : CueOutcome) (s : State) :
    (cs.foldl (fun acc c => acc.recordRemoval c o) s).port = s.port := by
  induction cs generalizing s with
  | nil => rfl
  | cons c rest ih => simp [ih]
@[simp] theorem State.removeAll_port (s : State) (o : CueOutcome) : (s.removeAll o).port = s.port :=
  State.foldRemoval_port _ _ _
theorem State.foldRemoval_mixer (cs : List Cue) (o : CueOutcome) (s : State) :
    (cs.foldl (fun acc c => acc.recordRemoval c o) s).mixer = s.mixer := by
  induction cs generalizing s with
  | nil => rfl
  | cons c rest ih => simp [ih]
@[simp] theorem State.removeAll_mixer (s : State) (o : CueOutcome) : (s.removeAll o).mixer = s.mixer :=
  State.foldRemoval_mixer _ _ _
theorem State.foldRemoval_working (cs : List Cue) (o : CueOutcome) (s : State) :
    (cs.foldl (fun acc c => acc.recordRemoval c o) s).working = s.working := by
  induction cs generalizing s with
  | nil => rfl
  | cons c rest ih => simp [ih]
@[simp] theorem State.removeAll_working (s : State) (o : CueOutcome) : (s.removeAll o).working = s.working :=
  State.foldRemoval_working _ _ _
theorem State.foldRemoval_overlay (cs : List Cue) (o : CueOutcome) (s : State) :
    (cs.foldl (fun acc c => acc.recordRemoval c o) s).overlay = s.overlay := by
  induction cs generalizing s with
  | nil => rfl
  | cons c rest ih => simp [ih]
@[simp] theorem State.removeAll_overlay (s : State) (o : CueOutcome) : (s.removeAll o).overlay = s.overlay :=
  State.foldRemoval_overlay _ _ _
theorem State.foldRemoval_store (cs : List Cue) (o : CueOutcome) (s : State) :
    (cs.foldl (fun acc c => acc.recordRemoval c o) s).store = s.store := by
  induction cs generalizing s with
  | nil => rfl
  | cons c rest ih => simp [ih]
@[simp] theorem State.removeAll_store (s : State) (o : CueOutcome) : (s.removeAll o).store = s.store :=
  State.foldRemoval_store _ _ _
theorem State.foldRemoval_link (cs : List Cue) (o : CueOutcome) (s : State) :
    (cs.foldl (fun acc c => acc.recordRemoval c o) s).link = s.link := by
  induction cs generalizing s with
  | nil => rfl
  | cons c rest ih => simp [ih]
@[simp] theorem State.removeAll_link (s : State) (o : CueOutcome) : (s.removeAll o).link = s.link :=
  State.foldRemoval_link _ _ _
theorem State.foldRemoval_start (cs : List Cue) (o : CueOutcome) (s : State) :
    (cs.foldl (fun acc c => acc.recordRemoval c o) s).start = s.start := by
  induction cs generalizing s with
  | nil => rfl
  | cons c rest ih => simp [ih]
@[simp] theorem State.removeAll_start (s : State) (o : CueOutcome) : (s.removeAll o).start = s.start :=
  State.foldRemoval_start _ _ _
theorem State.foldRemoval_pending (cs : List Cue) (o : CueOutcome) (s : State) :
    (cs.foldl (fun acc c => acc.recordRemoval c o) s).pending = s.pending := by
  induction cs generalizing s with
  | nil => rfl
  | cons c rest ih => simp [ih]
@[simp] theorem State.removeAll_pending (s : State) (o : CueOutcome) : (s.removeAll o).pending = s.pending :=
  State.foldRemoval_pending _ _ _

/-! ### Landing and triggering -/

@[simp] theorem State.landHead_working (s : State) (c : Cue) (rest : List Cue) (h : How) :
    (s.landHead c rest h).working = { scene := c.scene, origin := ⟨.cue c.tag, false⟩, follow := none } := by
  simp [State.landHead]

@[simp] theorem State.landHead_cues (s : State) (c : Cue) (rest : List Cue) (h : How) :
    (s.landHead c rest h).cues =
      { s.cues with
          results := addResult s.cues.results ⟨c.tag, .landed h, c.state, c.resultCounter s.cues.counter, false⟩ }.armHead
        rest := by
  simp [State.landHead]

@[simp] theorem State.landHead_tracker (s : State) (c : Cue) (rest : List Cue) (h : How) : (s.landHead c rest h).tracker = s.tracker := by
  simp [State.landHead]
@[simp] theorem State.landHead_key (s : State) (c : Cue) (rest : List Cue) (h : How) : (s.landHead c rest h).key = s.key := by
  simp [State.landHead]
@[simp] theorem State.landHead_planner (s : State) (c : Cue) (rest : List Cue) (h : How) : (s.landHead c rest h).planner = s.planner := by
  simp [State.landHead]
@[simp] theorem State.landHead_engine (s : State) (c : Cue) (rest : List Cue) (h : How) : (s.landHead c rest h).engine = s.engine := by
  simp [State.landHead]
@[simp] theorem State.landHead_port (s : State) (c : Cue) (rest : List Cue) (h : How) : (s.landHead c rest h).port = s.port := by
  simp [State.landHead]
@[simp] theorem State.landHead_mixer (s : State) (c : Cue) (rest : List Cue) (h : How) : (s.landHead c rest h).mixer = s.mixer := by
  simp [State.landHead]
@[simp] theorem State.landHead_overlay (s : State) (c : Cue) (rest : List Cue) (h : How) : (s.landHead c rest h).overlay = s.overlay := by
  simp [State.landHead]
@[simp] theorem State.landHead_store (s : State) (c : Cue) (rest : List Cue) (h : How) : (s.landHead c rest h).store = s.store := by
  simp [State.landHead]
@[simp] theorem State.landHead_link (s : State) (c : Cue) (rest : List Cue) (h : How) : (s.landHead c rest h).link = s.link := by
  simp [State.landHead]
@[simp] theorem State.landHead_start (s : State) (c : Cue) (rest : List Cue) (h : How) : (s.landHead c rest h).start = s.start := by
  simp [State.landHead]
@[simp] theorem State.landHead_pending (s : State) (c : Cue) (rest : List Cue) (h : How) : (s.landHead c rest h).pending = s.pending := by
  simp [State.landHead]
@[simp] theorem State.triggerHead_tracker (s : State) (c : Cue) (rest : List Cue) : (s.triggerHead c rest).1.tracker = s.tracker := by
  unfold State.triggerHead; split <;> simp
@[simp] theorem State.triggerHead_key (s : State) (c : Cue) (rest : List Cue) : (s.triggerHead c rest).1.key = s.key := by
  unfold State.triggerHead; split <;> simp
@[simp] theorem State.triggerHead_planner (s : State) (c : Cue) (rest : List Cue) : (s.triggerHead c rest).1.planner = s.planner := by
  unfold State.triggerHead; split <;> simp
@[simp] theorem State.triggerHead_engine (s : State) (c : Cue) (rest : List Cue) : (s.triggerHead c rest).1.engine = s.engine := by
  unfold State.triggerHead; split <;> simp
@[simp] theorem State.triggerHead_port (s : State) (c : Cue) (rest : List Cue) : (s.triggerHead c rest).1.port = s.port := by
  unfold State.triggerHead; split <;> simp
@[simp] theorem State.triggerHead_mixer (s : State) (c : Cue) (rest : List Cue) : (s.triggerHead c rest).1.mixer = s.mixer := by
  unfold State.triggerHead; split <;> simp
@[simp] theorem State.triggerHead_overlay (s : State) (c : Cue) (rest : List Cue) : (s.triggerHead c rest).1.overlay = s.overlay := by
  unfold State.triggerHead; split <;> simp
@[simp] theorem State.triggerHead_store (s : State) (c : Cue) (rest : List Cue) : (s.triggerHead c rest).1.store = s.store := by
  unfold State.triggerHead; split <;> simp
@[simp] theorem State.triggerHead_link (s : State) (c : Cue) (rest : List Cue) : (s.triggerHead c rest).1.link = s.link := by
  unfold State.triggerHead; split <;> simp
@[simp] theorem State.triggerHead_start (s : State) (c : Cue) (rest : List Cue) : (s.triggerHead c rest).1.start = s.start := by
  unfold State.triggerHead; split <;> simp
@[simp] theorem State.triggerHead_pending (s : State) (c : Cue) (rest : List Cue) : (s.triggerHead c rest).1.pending = s.pending := by
  unfold State.triggerHead; split <;> simp

/-! ### The results list -/

theorem addResult_length {rs : List CueResult} (e : CueResult) (h : rs.length ≤ 16) : (addResult rs e).length ≤ 16 := by
  unfold addResult; split <;> simp <;> omega

theorem resultsAfter_length {q : CueQueue} (o : CueOutcome) (cs : List Cue) (h : q.results.length ≤ 16) :
    (resultsAfter q o cs).length ≤ 16 := by
  induction cs generalizing q with
  | nil => exact h
  | cons c rest ih =>
    exact ih (q := { q with results := addResult q.results ⟨c.tag, o, c.state, c.resultCounter q.counter, false⟩ })
      (addResult_length _ h)

end Sys2Proof.Machine
end

