-- ==== Sys2Proof/Laws/CueLaw.lean ====
section
/-! SUPPORT. The law of the Cue Queue (Safety.lean) is kept by each of its operations, said once. -/

namespace Sys2Proof.Machine

/-- Arming the head behind a removed one keeps the law (R137). -/
theorem CueQueue.armHead_ok {q : CueQueue} {c : Cue} {rest : List Cue} (h : q.Ok) (hq : q.queue = c :: rest) (rs : List CueResult) (hr : rs.length ≤ 16) :
   (CueQueue.armHead {q with results := rs} rest).Ok := by
  obtain ⟨h1, h2, h3, h4, h5, h6, h7, h8⟩ := h
  rw [hq] at h1 h2 h3 h4 h5
  cases rest with
  | nil => simp [CueQueue.armHead, CueQueue.Ok, hr]
  | cons d ds =>
    simp [CueQueue.armHead, CueQueue.Ok, hr] at *
    refine ⟨by omega, ⟨h2.2.1, h2.2.2⟩, ⟨h3.2.1, fun a ha => h3.2.2 a ha⟩, fun a ha => h5.2 a ha⟩

/-- A landing keeps the law of the queue (R139). -/
theorem State.landHead_ok {s : State} {c : Cue} {rest : List Cue} {h : How} (hs : s.cues.Ok) (hq : s.cues.queue = c :: rest) :
   (s.landHead c rest h).cues.Ok := by
  simp only [State.landHead_cues]
  exact CueQueue.armHead_ok hs hq _ (addResult_length _ hs.2.2.2.2.2.2.2)

/-- Removing every cue leaves a queue under its law (R141, R146, R147). -/
theorem State.removeAll_ok {s : State} {o} (hs : s.cues.Ok) : (s.removeAll o).cues.Ok := by
  simp only [State.removeAll_cues]
  have := resultsAfter_length (q := s.cues) o s.cues.queue hs.2.2.2.2.2.2.2
  simp [CueQueue.Ok, this]

/-- A trigger at the head keeps the law of the queue (R138). -/
theorem State.triggerHead_ok {s : State} {c : Cue} {rest : List Cue} (hs : s.cues.Ok) (hq : s.cues.queue = c :: rest) :
   (s.triggerHead c rest).1.cues.Ok := by
  unfold State.triggerHead
  split
  · exact State.landHead_ok hs hq
  · obtain ⟨h1, h2, h3, h4, h5, h6, h7, h8⟩ := hs
    rw [hq] at h1 h2 h3 h4 h5
    simp [CueQueue.Ok] at *
    exact ⟨by omega, h2, h3, h5, h6, h8⟩

/-- A counter of at most 255 keeps the law of a queue that holds a cue (R136). -/
theorem CueQueue.setCounter_ok {q : CueQueue} {c : Cue} {rest : List Cue} (h : q.Ok) (hq : q.queue = c :: rest) {n : Nat} (hn : n ≤ 255) :
    CueQueue.Ok {q with counter := n} := by
  obtain ⟨h1, h2, h3, h4, h5, h6, h7, h8⟩ := h
  exact ⟨h1, h2, h3, h4, h5, hn, by simp [hq], h8⟩

/-- BEAT keeps the law of the queue (R142). -/
theorem beatWork_ok (a : Unit) (s : State) (hs : s.cues.Ok) : (beatWork a s).1.cues.Ok := by
  unfold beatWork
  split
  · exact hs
  · next c rest hq =>
    have hn : raiseCounter s.cues.counter ≤ 255 := by unfold raiseCounter; have := hs.2.2.2.2.2.1; split <;> omega
    have h1 := CueQueue.setCounter_ok hs hq hn
    simp only
    split
    · exact State.landHead_ok (s := {s with cues := _}) h1 hq
    · split
      · exact State.triggerHead_ok (s := {s with cues := _}) h1 hq
      · exact h1

/-- FIRE keeps the law of the queue (R143). -/
theorem fireWork_ok (a : Unit) (s : State) (hs : s.cues.Ok) : (fireWork a s).1.cues.Ok := by
  unfold fireWork
  split
  · exact hs
  · next c rest hq =>
    simp only
    split
    · exact State.landHead_ok hs hq
    · exact State.triggerHead_ok hs hq

/-- A PHRASE START keeps the law of the queue (R144). -/
theorem State.phraseStartAtHead_ok (s : State) (hs : s.cues.Ok) : (s.phraseStartAtHead).cues.Ok := by
  unfold State.phraseStartAtHead
  split
  · exact hs
  · next c rest hq =>
    split
    · exact State.landHead_ok hs hq
    · split
      · exact State.triggerHead_ok hs hq
      · exact hs

/-- A results list of at most sixteen entries keeps the law (R149). -/
theorem CueQueue.setResults_ok {q : CueQueue} (h : q.Ok) {rs} (hr : rs.length ≤ 16) : CueQueue.Ok {q with results := rs} := by
  obtain ⟨h1, h2, h3, h4, h5, h6, h7, h8⟩ := h
  exact ⟨h1, h2, h3, h4, h5, h6, h7, hr⟩

/-- Removing one cue keeps the law of the queue (R145). -/
theorem CueQueue.withoutTag_ok {q : CueQueue} (h : q.Ok) (t : Nat) : (q.withoutTag t).Ok := by
  unfold CueQueue.withoutTag
  split
  · exact h
  · next c rest hq =>
    split
    · exact CueQueue.armHead_ok h hq q.results h.2.2.2.2.2.2.2
    · obtain ⟨h1, h2, h3, h4, h5, h6, h7, h8⟩ := h
      rw [hq] at h1 h2 h3 h4 h5
      have hs : (rest.eraseP (·.tag = t)).Sublist rest := List.eraseP_sublist 
      simp only [List.map_cons, List.nodup_cons, List.forall_mem_cons, List.tail_cons, List.length_cons] at *
      refine ⟨?_, ?_, ?_, h4, fun a ha => h5 a (hs.subset ha), h6, by simp, h8⟩
      · have := hs.length_le; simp; omega
      · exact List.nodup_cons.mpr ⟨fun hm => h2.1 ((hs.map _).subset hm), h2.2.sublist (hs.map _)⟩
      · exact List.forall_mem_cons.mpr ⟨h3.1, fun a ha => h3.2 a (hs.subset ha)⟩

/-- CANCEL CUE keeps the law of the queue (R145). -/
theorem cancelWork_ok (a) (s : State) (hs : s.cues.Ok) : (cancelWork a s).1.cues.Ok := by
  unfold cancelWork
  split
  · exact hs
  · split
    · exact hs
    · simp only [State.recordRemoval_cues]
      exact CueQueue.withoutTag_ok (CueQueue.setResults_ok hs (addResult_length _ hs.2.2.2.2.2.2.2)) _

/-- A cue of a new tag entered at the back of a queue with room keeps its law (R140). -/
theorem CueQueue.enter_ok {q : CueQueue} (h : q.Ok) {c : Cue} (hl : q.queue.length < 16) (ht : c.tag ∉ q.queue.map (·.tag))
   (hc : (1 ≤ c.tag ∧ c.tag ≤ 255) ∧ c.trigger.Ok ∧ c.deadline ≤ 64) : (q.enter c).Ok := by
  obtain ⟨h1, h2, h3, h4, h5, h6, h7, h8⟩ := h
  unfold CueQueue.enter
  split
  · next hq => simp [CueQueue.Ok, hc, h8]
  · next hq =>
    cases hqq : q.queue with
    | nil => exact absurd hqq hq
    | cons d ds =>
      rw [hqq] at h1 h2 h3 h4 h5 hl ht
      simp [CueQueue.Ok] at *
      refine ⟨by omega, ?_, ?_, h4, ?_, h6, h8⟩
      · rw [List.nodup_append]
        refine ⟨?_, h2.2, by simp, ?_⟩
        · exact ⟨h2.1, fun e => ht.1 e.symm⟩
        · simp; intro a ha e; exact ht.2 a ha e
      · exact ⟨h3.1, fun x hx => hx.elim (h3.2 x) (fun e => e ▸ hc)⟩
      · exact fun x hx => hx.elim (h5 x) (fun e => by rw [e])

end Sys2Proof.Machine
end

