-- ==== Sys2Proof/Laws/Frames.lean ====
section
/-! SUPPORT. The frame of each block's work and of the shared events: the blocks they may change, every other block kept. -/

namespace Sys2Proof.Machine

/-- Two states that agree in every field are equal. -/
theorem State.eq_of_fields {s t : State} (h1 : s.tracker = t.tracker) (h2 : s.key = t.key) (h3 : s.planner = t.planner)
    (h4 : s.engine = t.engine) (h5 : s.port = t.port) (h6 : s.mixer = t.mixer) (h7 : s.working = t.working)
    (h8 : s.overlay = t.overlay) (h9 : s.cues = t.cues) (h10 : s.store = t.store) (h11 : s.link = t.link)
    (h12 : s.notices = t.notices) (h13 : s.start = t.start) (h14 : s.pending = t.pending) : s = t := by
  cases s; cases t; simp_all

/-! ### The requests' work -/

theorem engineModeWork_frame (a : Byte) (s : State) :
    (engineModeWork a s).1 = { s with mixer := (engineModeWork a s).1.mixer } := by
  unfold engineModeWork; repeat' split
  all_goals rfl

theorem tuningWork_frame (a : Byte × Byte) (s : State) :
    (tuningWork a s).1 = { s with tracker := (tuningWork a s).1.tracker } :=
  rfl

theorem trackerWork_frame (a : List Byte) (s : State) :
    (trackerWork a s).1 = { s with tracker := (trackerWork a s).1.tracker } :=
  rfl

theorem noteWork_frame (a : Byte × Byte) (s : State) :
    (noteWork a s).1 = { s with key := (noteWork a s).1.key, notices := (noteWork a s).1.notices } := by
  apply State.eq_of_fields <;> first | rfl | (unfold noteWork State.applyKey; dsimp only; repeat' split) <;> simp

theorem notesClearWork_frame (a : Unit) (s : State) :
    (notesClearWork a s).1 = { s with key := (notesClearWork a s).1.key, notices := (notesClearWork a s).1.notices } := by
  apply State.eq_of_fields <;> first | rfl | simp [notesClearWork, State.applyKey]

theorem setScaleWork_frame (a : Byte × Byte × Byte) (s : State) :
    (setScaleWork a s).1 = { s with key := (setScaleWork a s).1.key } := by
  unfold setScaleWork; dsimp only; repeat' split
  all_goals rfl

theorem setTemplateWork_frame (a : Byte × Byte × Byte × Byte) (s : State) :
    (setTemplateWork a s).1 = { s with key := (setTemplateWork a s).1.key } := by
  unfold setTemplateWork; dsimp only; repeat' split
  all_goals rfl

theorem chordPolicyWork_frame (a : Byte) (s : State) :
    (chordPolicyWork a s).1 = { s with key := (chordPolicyWork a s).1.key } := by
  unfold chordPolicyWork; repeat' split
  all_goals rfl

theorem clearNoticesWork_frame (a : Byte × Byte) (s : State) :
    (clearNoticesWork a s).1 = { s with notices := (clearNoticesWork a s).1.notices } := by
  unfold clearNoticesWork; repeat' split
  all_goals rfl

theorem configureWork_frame (a : List Byte) (s : State) :
    (configureWork a s).1 = { s with notices := (configureWork a s).1.notices } :=
  rfl

theorem enqueueWork_frame (a : EnqueueFields) (s : State) :
    (enqueueWork a s).1 = { s with cues := (enqueueWork a s).1.cues, notices := (enqueueWork a s).1.notices } := by
  apply State.eq_of_fields <;> first | rfl | (unfold enqueueWork; dsimp only; repeat' split) <;> simp

theorem beatWork_frame (a : Unit) (s : State) :
    (beatWork a s).1 = { s with working := (beatWork a s).1.working, cues := (beatWork a s).1.cues, notices := (beatWork a s).1.notices } := by
  apply State.eq_of_fields <;> first | rfl | (unfold beatWork; dsimp only; repeat' split) <;> simp

theorem fireWork_frame (a : Unit) (s : State) :
    (fireWork a s).1 = { s with working := (fireWork a s).1.working, cues := (fireWork a s).1.cues, notices := (fireWork a s).1.notices } := by
  apply State.eq_of_fields <;> first | rfl | (unfold fireWork; dsimp only; repeat' split) <;> simp

theorem cancelWork_frame (a : Byte) (s : State) :
    (cancelWork a s).1 = { s with cues := (cancelWork a s).1.cues, notices := (cancelWork a s).1.notices } := by
  apply State.eq_of_fields <;> first | rfl | (unfold cancelWork; dsimp only; repeat' split) <;> simp

theorem clearCuesWork_frame (a : Unit) (s : State) :
    (clearCuesWork a s).1 = { s with cues := (clearCuesWork a s).1.cues, notices := (clearCuesWork a s).1.notices } := by
  apply State.eq_of_fields <;> first | rfl | simp [clearCuesWork]

theorem readResultsWork_frame (a : Unit) (s : State) :
    (readResultsWork a s).1 = { s with cues := (readResultsWork a s).1.cues } :=
  rfl

theorem loadSceneWork_frame (a : Byte × Byte) (s : State) :
    (loadSceneWork a s).1 = { s with working := (loadSceneWork a s).1.working, cues := (loadSceneWork a s).1.cues, notices := (loadSceneWork a s).1.notices } := by
  apply State.eq_of_fields <;> first | rfl | (unfold loadSceneWork State.loadRecord; dsimp only; repeat' split) <;> simp

theorem loadInlineWork_frame (a : List Byte) (s : State) :
    (loadInlineWork a s).1 = { s with working := (loadInlineWork a s).1.working, cues := (loadInlineWork a s).1.cues, notices := (loadInlineWork a s).1.notices } := by
  apply State.eq_of_fields <;> first | rfl | (unfold loadInlineWork State.loadRecord; dsimp only; repeat' split) <;> simp

theorem editWork_frame (a : Byte × Byte × Byte × Byte) (s : State) :
    (editWork a s).1 = { s with working := (editWork a s).1.working } := by
  unfold editWork; dsimp only; repeat' split
  all_goals rfl

theorem overlayOnWork_frame (a : Byte) (s : State) :
    (overlayOnWork a s).1 = { s with working := (overlayOnWork a s).1.working, overlay := (overlayOnWork a s).1.overlay } := by
  unfold overlayOnWork; repeat' split
  all_goals rfl

theorem overlayOffWork_frame (a : Unit) (s : State) :
    (overlayOffWork a s).1 = { s with working := (overlayOffWork a s).1.working, overlay := (overlayOffWork a s).1.overlay } := by
  unfold overlayOffWork; dsimp only; repeat' split
  all_goals rfl

theorem overlayWriteWork_frame (a : List Byte) (s : State) :
    (overlayWriteWork a s).1 = { s with working := (overlayWriteWork a s).1.working, overlay := (overlayWriteWork a s).1.overlay } := by
  unfold overlayWriteWork; dsimp only; repeat' split
  all_goals rfl

theorem programWork_frame (a : List Byte) (s : State) :
    (programWork a s).1 = { s with store := (programWork a s).1.store } := by
  unfold programWork; dsimp only; repeat' split
  all_goals rfl

theorem eraseWork_frame (a : Byte) (s : State) :
    (eraseWork a s).1 = { s with store := (eraseWork a s).1.store } := by
  unfold eraseWork; repeat' split
  all_goals rfl

theorem freezeWork_frame (a : Unit) (s : State) :
    (freezeWork a s).1 = { s with store := (freezeWork a s).1.store } := by
  unfold freezeWork; repeat' split
  all_goals rfl

theorem resetWork_frame (a : Unit) (s : State) :
    (resetWork a s).1 = { s with link := (resetWork a s).1.link } :=
  rfl

/-! ### The store's events: the store and the notices change -/

theorem State.failOp_frame (s : State) (o : StoreOp) (c : FailureCause) :
    s.failOp o c = { s with store := (s.failOp o c).store, notices := (s.failOp o c).notices } := by
  apply State.eq_of_fields <;> first | rfl | simp [State.failOp]

theorem State.finishOp_frame (s : State) (o : StoreOp) :
    s.finishOp o = { s with store := (s.finishOp o).store, notices := (s.finishOp o).notices } := rfl

theorem State.passTime_frame (s : State) (o : StoreOp) (micros : Nat) (event : StoreOp → State)
    (h : ∀ o, event o = { s with store := (event o).store, notices := (event o).notices }) :
    s.passTime o micros event =
      { s with store := (s.passTime o micros event).store, notices := (s.passTime o micros event).notices } := by
  unfold State.passTime
  split
  · exact State.failOp_frame s _ _
  · exact h _

/-- All that passing time does to an operation: a stretch is counted, within a pulse up to its end. -/
theorem StoreOp.pass_eq (o : StoreOp) (micros : Nat) :
    o.pass micros =
      { o with elapsedMicros := (o.pass micros).elapsedMicros, pulseMicros := (o.pass micros).pulseMicros } ∧
      o.elapsedMicros ≤ (o.pass micros).elapsedMicros ∧ (o.pass micros).elapsedMicros ≤ o.elapsedMicros + micros := by
  unfold StoreOp.pass
  split
  · exact ⟨rfl, by simp, by simp⟩
  · exact ⟨rfl, by simp, by simp⟩

theorem State.passToStatus_frame (s : State) (sinceMicros : Nat) :
    s.passToStatus sinceMicros =
      { s with store := (s.passToStatus sinceMicros).store, notices := (s.passToStatus sinceMicros).notices } := by
  unfold State.passToStatus
  repeat' split
  · exact State.failOp_frame s _ _
  · rfl
  · rfl

theorem State.advanceOp_frame (s : State) (o : StoreOp) :
    s.advanceOp o = { s with store := (s.advanceOp o).store, notices := (s.advanceOp o).notices } := by
  unfold State.advanceOp
  split <;> rfl

theorem State.endPulse_frame (s : State) (verified : Bool) (o : StoreOp) :
    s.endPulse verified o =
      { s with store := (s.endPulse verified o).store, notices := (s.endPulse verified o).notices } := by
  unfold State.endPulse
  split
  · exact State.advanceOp_frame s o
  · split
    · exact State.failOp_frame s o _
    · rfl

theorem State.endErasePulse_frame (s : State) (erased : Bool) (b n : Nat) (o : StoreOp) :
    s.endErasePulse erased b n o =
      { s with store := (s.endErasePulse erased b n o).store, notices := (s.endErasePulse erased b n o).notices } := by
  unfold State.endErasePulse
  split
  · rfl
  · split
    · exact State.failOp_frame s o _
    · rfl

theorem execProgrammingVoltageReady_frame {waitMicros : Nat} {s t : State}
    (h : execProgrammingVoltageReady waitMicros s = .next t) : t = { s with store := t.store, notices := t.notices } := by
  cases h
  split
  · split
    · exact State.passTime_frame s _ _ _ fun _ => rfl
    · rfl
  · rfl

theorem execStorePulseVerify_frame {verified : Bool} {s t : State} (h : execStorePulseVerify verified s = .next t) :
    t = { s with store := t.store, notices := t.notices } := by
  cases h
  split
  · split
    · exact State.passTime_frame s _ _ _ fun o => State.endPulse_frame s verified o
    · rfl
  · rfl

theorem execErasePulseVerify_frame {erased : Bool} {s t : State} (h : execErasePulseVerify erased s = .next t) :
    t = { s with store := t.store, notices := t.notices } := by
  cases h
  split
  · split
    · exact State.passTime_frame s _ _ _ fun o => State.endErasePulse_frame s erased _ _ o
    · rfl
  · rfl

theorem execTimerExpiry_frame {s t : State} (h : execTimerExpiry s = .next t) :
    t = { s with store := t.store, notices := t.notices } := by
  cases h
  split
  · exact State.failOp_frame s _ _
  · rfl

theorem execSupplyLoss_frame {sinceMicros : Nat} {s t : State} (h : execSupplyLoss sinceMicros s = .next t) :
    t = { s with store := t.store, notices := t.notices } := by
  cases h
  dsimp only
  split
  · unfold State.passTime
    split <;> exact (State.failOp_frame _ _ _).trans rfl
  · rfl

/-! ### The link's events -/

theorem State.offer_frame (s : State) (e : FifoEntry) :
    s.offer e = { s with link := (s.offer e).link, notices := (s.offer e).notices } := by
  unfold State.offer
  split <;> rfl

theorem State.applyByte_frame (s : State) (e : ByteEffect) :
    s.applyByte e = { s with link := (s.applyByte e).link, notices := (s.applyByte e).notices } := by
  unfold State.applyByte
  split
  · rfl
  · exact (State.offer_frame _ _).trans rfl
  · exact (State.offer_frame _ _).trans rfl

/-! ### The audio side's events -/

theorem State.takeSample_frame (s : State) (x : Sample) :
    s.takeSample x =
      { s with tracker := (s.takeSample x).tracker, engine := (s.takeSample x).engine, port := (s.takeSample x).port,
               mixer := (s.takeSample x).mixer, notices := (s.takeSample x).notices } := by
  apply State.eq_of_fields <;> first | rfl | simp [State.takeSample]

theorem State.completeFrame_frame (s : State) :
    s.completeFrame =
      { s with tracker := s.completeFrame.tracker, planner := s.completeFrame.planner, engine := s.completeFrame.engine,
               mixer := s.completeFrame.mixer, working := s.completeFrame.working, notices := s.completeFrame.notices } := by
  apply State.eq_of_fields <;> first | rfl | simp [State.completeFrame]

theorem State.phraseStartAtHead_frame (s : State) :
    s.phraseStartAtHead =
      { s with working := s.phraseStartAtHead.working, cues := s.phraseStartAtHead.cues,
               notices := s.phraseStartAtHead.notices } := by
  apply State.eq_of_fields <;> first | rfl | (unfold State.phraseStartAtHead; repeat' split) <;> simp

theorem State.declarePresent_frame (s : State) :
    s.declarePresent =
      { s with tracker := s.declarePresent.tracker, planner := s.declarePresent.planner, engine := s.declarePresent.engine,
               port := s.declarePresent.port, mixer := s.declarePresent.mixer } := by
  unfold State.declarePresent
  dsimp only
  split <;> rfl

theorem State.startEngine_frame (s : State) (ramFault : Bool) :
    s.startEngine ramFault =
      { s with tracker := (s.startEngine ramFault).tracker, planner := (s.startEngine ramFault).planner,
               engine := (s.startEngine ramFault).engine, mixer := (s.startEngine ramFault).mixer } := by
  unfold State.startEngine
  repeat' split
  all_goals rfl

end Sys2Proof.Machine
end

