-- ==== Sys2Proof/Laws/Ring.lean ====
section
/-! SUPPORT. The capture ring's memory: a read after a write, and the canonical form (R75). -/

namespace Sys2Proof.Machine

/-- The canonical form of a ring with a first entry. -/
theorem ringSorted_cons {lo : Option Nat} {a : Nat} {x : Sample} {rest : List (Nat × Sample)} :
    ringSorted lo ((a, x) :: rest) = true ↔ (∀ l ∈ lo, l < a) ∧ x ≠ ringDefault ∧ ringSorted (some a) rest = true := by
  cases lo <;> simp [ringSorted, and_assoc]

/-- An index below every listed one reads as an unlisted one. -/
theorem ringRead_of_sorted {r : List (Nat × Sample)} {lo i : Nat} (h : ringSorted (some lo) r = true) (hi : i ≤ lo) :
    ringRead r i = ringDefault := by
  induction r generalizing lo with
  | nil => rfl
  | cons c rest ih =>
    obtain ⟨a, x⟩ := c
    obtain ⟨h1, -, h3⟩ := ringSorted_cons.mp h
    have h1 := h1 lo rfl
    have : a ≠ i := by omega
    simp [ringRead, this, ih h3 (by omega)]

theorem ringSorted_weaken {r : List (Nat × Sample)} {lo : Option Nat} {hi : Nat} (h : ringSorted (some hi) r = true)
    (hl : ∀ l ∈ lo, l ≤ hi) : ringSorted lo r = true := by
  cases r with
  | nil => rfl
  | cons c rest =>
    obtain ⟨h1, h2, h3⟩ := ringSorted_cons.mp h
    exact ringSorted_cons.mpr ⟨fun l hm => (hl l hm).trans_lt (h1 hi rfl), h2, h3⟩

/-- Writing keeps the order and the absence of default entries. -/
theorem ringWrite_sorted {r : List (Nat × Sample)} {lo : Option Nat} {i : Nat} (x : Sample) (h : ringSorted lo r = true)
    (hi : ∀ l ∈ lo, l < i) : ringSorted lo (ringWrite r i x) = true := by
  induction r generalizing lo with
  | nil =>
    by_cases hx : x = ringDefault
    · simp [ringWrite, hx, ringSorted]
    · simp only [ringWrite, hx, if_false]; exact ringSorted_cons.mpr ⟨hi, hx, rfl⟩
  | cons c rest ih =>
    obtain ⟨a, y⟩ := c
    have h' := ringSorted_cons.mp h
    unfold ringWrite
    split
    · next hlt => exact ringSorted_cons.mpr ⟨h'.1, h'.2.1, ih h'.2.2 (by simpa using hlt)⟩
    · split
      · next heq =>
        subst heq
        split
        · exact ringSorted_weaken h'.2.2 (fun l hl => (hi l hl).le)
        · next hx => exact ringSorted_cons.mpr ⟨h'.1, hx, h'.2.2⟩
      · next hlt hne =>
        split
        · exact h
        · next hx =>
          have hia : i < a := by omega
          exact ringSorted_cons.mpr ⟨hi, hx, ringSorted_cons.mpr ⟨by simpa using hia, h'.2⟩⟩

theorem ringWrite_bound {r : List (Nat × Sample)} {i n : Nat} (x : Sample) (h : ∀ c ∈ r, c.1 < n) (hi : i < n) :
    ∀ c ∈ ringWrite r i x, c.1 < n := by
  induction r with
  | nil => by_cases hx : x = ringDefault <;> simp [ringWrite, hx, hi]
  | cons c rest ih =>
    obtain ⟨a, y⟩ := c
    obtain ⟨h1, h2⟩ := List.forall_mem_cons.mp h
    unfold ringWrite
    split
    · exact List.forall_mem_cons.mpr ⟨h1, ih h2⟩
    · split <;> split
      · exact h2
      · exact List.forall_mem_cons.mpr ⟨hi, h2⟩
      · exact h
      · exact List.forall_mem_cons.mpr ⟨hi, h⟩

/-- A write keeps the ring's canonical form. -/
theorem ringWrite_wf {r : List (Nat × Sample)} {i : Nat} (x : Sample) (h : ringWf r = true) (hi : i < 4096) :
    ringWf (ringWrite r i x) = true := by
  simp only [ringWf, Bool.and_eq_true] at h ⊢
  exact ⟨ringWrite_sorted x h.1 (by simp), by simpa using ringWrite_bound x (by simpa using h.2) hi⟩

/-- The empty ring, all zeros, is in canonical form. -/
theorem ringWf_nil : ringWf [] = true := rfl

theorem ringRead_write_sorted {r : List (Nat × Sample)} {lo : Option Nat} (i : Nat) (x : Sample) (h : ringSorted lo r = true)
    (j : Nat) : ringRead (ringWrite r i x) j = if j = i then x else ringRead r j := by
  induction r generalizing lo with
  | nil =>
    by_cases hx : x = ringDefault <;> by_cases hj : j = i <;> simp [ringWrite, ringRead, hx, hj, eq_comm]
    · intro h; exact absurd h.symm hj
  | cons c rest ih =>
    obtain ⟨a, y⟩ := c
    have h := (ringSorted_cons.mp h).2
    unfold ringWrite
    split
    · next hlt =>
      simp only [ringRead, ih h.2]
      by_cases ha : a = j
      · have : j ≠ i := by omega
        simp [ha, this]
      · simp [ha]
    · split
      · next heq =>
        subst heq
        split
        · next hx =>
          by_cases hj : j = a
          · subst hj; simp [hx, ringRead_of_sorted h.2 le_rfl]
          · simp [ringRead, hj, Ne.symm hj]
        · by_cases hj : j = a
          · simp [ringRead, hj]
          · simp [ringRead, hj, Ne.symm hj]
      · next hne hlt =>
        have hia : i < a := by omega
        split
        · next hx =>
          by_cases hj : j = i
          · subst hj
            simp [ringRead, hx, hlt, ringRead_of_sorted h.2 hia.le]
          · simp [hj]
        · by_cases hj : j = i
          · simp [ringRead, hj]
          · simp [ringRead, hj, Ne.symm hj]

/-- A read after a write: the written index gives the written sample, every other index what it gave (R75). -/
theorem ringRead_write {r : List (Nat × Sample)} (i : Nat) (x : Sample) (h : ringWf r = true) (j : Nat) :
    ringRead (ringWrite r i x) j = if j = i then x else ringRead r j := by
  simp only [ringWf, Bool.and_eq_true] at h
  exact ringRead_write_sorted i x h.1 j

end Sys2Proof.Machine
end

