-- ==== Sys2Proof/WellFormed.lean ====
section
/-! DEFINITION. Which commands are well formed: the frames and the faults the link can carry. -/

namespace Sys2Proof

/-- A frame's payload is at most 248 bytes: a length byte of at most 250, less kind and sequence (9.2). -/
def payloadFits (payload : List Byte) : Bool := payload.length ≤ 248

/-- The kinds that name a request (9.5): the catalogue as the manual lists it. -/
def namesRequest (kind : Byte) : Bool :=
  kind.toNat ∈ [0x01, 0x02, 0x03, 0x04, 0x10, 0x11, 0x12, 0x20, 0x21, 0x22, 0x23, 0x24, 0x25, 0x30, 0x31, 0x32, 0x33, 0x40,
    0x41, 0x42, 0x43, 0x44, 0x45, 0x46, 0x50, 0x51, 0x52, 0x53, 0x54, 0x58, 0x59, 0x5A, 0x5B, 0x60, 0x61, 0x62]

/-- A command is well formed. -/
def WellFormed (i : Instr) : Bool :=
  match i with
  | .unknownKind kind _ payload => payloadFits payload && !namesRequest kind
  | .receiveFault b stopError => stopError || b.toNat < 2 || 250 < b.toNat
  | .powerOnReset _ => true
  | .pinReset _ => true
  | .resetnRelease => true
  | .softReset _ => true
  | .selfCheckEnd _ _ => true
  | .sampleEvent _ => true
  | .frameCompletion _ => true
  | .phraseStart => true
  | .clockGapTimeout => true
  | .measurementWindowEnd => true
  | .frameReceived _ => true
  | .receiveGapTimeout => true
  | .badFrame _ => true
  | .transmitComplete => true
  | .getStatus _ payload => payloadFits payload
  | .monitor _ payload => payloadFits payload
  | .reset _ payload => payloadFits payload
  | .setEngineMode _ payload => payloadFits payload
  | .setTuning _ payload => payloadFits payload
  | .setTracker _ payload => payloadFits payload
  | .readSetup _ payload => payloadFits payload
  | .note _ payload => payloadFits payload
  | .notesClear _ payload => payloadFits payload
  | .setScale _ payload => payloadFits payload
  | .setTemplate _ payload => payloadFits payload
  | .setChordPolicy _ payload => payloadFits payload
  | .readContext _ payload => payloadFits payload
  | .loadScene _ payload => payloadFits payload
  | .loadInlineScene _ payload => payloadFits payload
  | .editWorkingScene _ payload => payloadFits payload
  | .readWorkingScene _ payload => payloadFits payload
  | .enqueueCue _ payload => payloadFits payload
  | .fire _ payload => payloadFits payload
  | .cancelCue _ payload => payloadFits payload
  | .clearCues _ payload => payloadFits payload
  | .listCues _ payload => payloadFits payload
  | .readCueResults _ payload => payloadFits payload
  | .beat _ payload => payloadFits payload
  | .readSlot _ payload => payloadFits payload
  | .programSlot _ payload => payloadFits payload
  | .eraseBank _ payload => payloadFits payload
  | .storeStatus _ payload => payloadFits payload.bytes
  | .freezeStore _ payload => payloadFits payload
  | .programmingVoltageReady _ => true
  | .storePulseVerify _ => true
  | .erasePulseVerify _ => true
  | .timerExpiry => true
  | .supplyLoss _ => true
  | .storeSupplyRestored => true
  | .overlayOn _ payload => payloadFits payload
  | .overlayOff _ payload => payloadFits payload
  | .overlayWrite _ payload => payloadFits payload
  | .overlayRead _ payload => payloadFits payload
  | .readNotices _ payload => payloadFits payload
  | .clearNotices _ payload => payloadFits payload
  | .configureNotices _ payload => payloadFits payload
  | .receivedByte _ _ => true
  | .frameClockEdge => true

end Sys2Proof
end

