-- ==== Sys2Proof/Tests/Slice0.lean ====
section
/-! SUPPORT. Tests: ill-formed terms refused, one step of each command against the manual's own figures, and for every
obligation with hypotheses a state and operands that meet them. Each test names the manual's table or sequence. -/

namespace Sys2Proof.Tests

set_option Elab.async false

open Sys2Proof Sys2Proof.Machine

/-! ### Well-formed commands -/

theorem test_unknownKind_of_a_request_refused : WellFormed (.unknownKind 0x46 1 []) = false := by decide +kernel
theorem test_long_payload_refused : WellFormed (.getStatus 1 (List.replicate 249 0)) = false := by decide +kernel
theorem test_receiveFault_of_a_good_length_refused : WellFormed (.receiveFault 250 false) = false := by decide +kernel
theorem test_wellFormed_commands : [Instr.unknownKind 0x47 1 (List.replicate 248 0), .receiveFault 251 false,
    .receiveFault 2 true, .getStatus 1 [], .frameReceived 9].all WellFormed = true := by decide +kernel

/-! ### Words -/

theorem test_no_word_spells_a_command : decodeTableWord 8 0x46 = none ∧ State.reset.withFetchWord 8 0x46 = State.reset :=
  ⟨rfl, rfl⟩

/-! ### Helpers -/

/-- The part after its self-check, nothing queued. -/
def up : State := { State.reset with start := ⟨.up, .powerOn⟩ }

/-- A state whose FIFO holds one entry alone. -/
def State.asked (s : State) (e : FifoEntry) : State := { s with link := { s.link with fifo := [e] } }

/-- The state a command leaves. -/
def after (i : Instr) (s : State) : State :=
  match exec i s with
  | .next t => t
  | _ => s

/-- A request carried out on a state in which its frame alone waits. -/
def run (i : Instr) (s : State) : State :=
  match request? i with
  | some (k, q, p) => after i (State.asked s (.frame k q p))
  | none => after i s

/-- Code and payload of the last reply. -/
def said (t : State) : List Byte :=
  match t.link.replies.getLast? with
  | some f => f.code.toList ++ f.payload
  | none => []

/-- A state with a note set and a chord context. -/
def held (notes : List Nat) (c : ChordContext) : State := { up with key := { up.key with notes := notes, context := c } }

/-- A scene by its first name byte. -/
def sceneNamed (b : Byte) : Scene := { defaultScene with name := b :: List.replicate 11 0x20 }

/-- A cue of the song of 7.11. -/
def cueOf (tag : Nat) (t : CueTrigger) (l : CueLanding) (d : Nat) (st : CueState) : Cue :=
  ⟨tag, sceneNamed (byteOfNat (0x30 + tag)), .inline, t, l, d, st⟩

def cue10 : Cue := cueOf 10 (.beats 8) .atTrigger 0 .armed
def cue11 (st : CueState) : Cue := cueOf 11 .footswitch .atPhrase 16 st
def cue12 (st : CueState) : Cue := cueOf 12 .phrase .atTrigger 0 st

/-- A state with a queue and a counter. -/
def queued (cs : List Cue) (n : Nat) : State := { up with cues := ⟨cs, n, []⟩ }

/-- A state whose store's slot `i` holds what `f i` says, with no operation. -/
def stored (f : Nat → Slot) : State :=
  { up with store := storeAtReset (Vector.ofFn fun i => f i.val) true }

/-- A state with an operation in the store. -/
def working (s : State) (o : StoreOp) : State := { s with store := { s.store with op := some o } }

def opOf (w : StoreWork) (micros pulses : Nat) (pulsing : Bool) : StoreOp := ⟨w, .inFlight, micros, pulses, pulsing, 0⟩

/-- The part running on a PRESENT clock, at a frame position. -/
def running (pos : Nat) : State :=
  { up with
    engine := { up.engine with state := .running }, port := { up.port with clock := .present }
    tracker := { up.tracker with framePos := pos } }

/-! ### Resets and start-up (chapter 10) -/

theorem test_powerOnReset : let t := after (.powerOnReset true) (held [60] (.active 0 0))
    t.key.notes = [] ∧ t.link.highRate = true ∧ t.start = ⟨.selfCheck, .powerOn⟩ := by decide +kernel
theorem test_pinReset : (after (.pinReset false) up).start = ⟨.pinHeld, .pin⟩ := by decide +kernel
theorem test_resetnRelease : let t := after .resetnRelease { up with start := ⟨.pinHeld, .pin⟩, port := { up.port with windowCount := 9 } }
    t.start = ⟨.selfCheck, .pin⟩ ∧ t.port.windowCount = 0 := by decide +kernel
/-- R180: the setup outlives a soft reset, the notes do not. -/
theorem test_softReset_keeps_the_setup :
    let t := after (.softReset false) { up with
      link := { up.link with stopped := true }, key := { up.key with policy := .clear, notes := [60] } }
    t.key.policy = .clear ∧ t.key.notes = [] ∧ t.start = ⟨.selfCheck, .soft⟩ := by decide +kernel
/-- 10.4, step 2. -/
theorem test_selfCheckEnd_ready :
    let t := after (.selfCheckEnd false false) { stored (fun i => if i < 40 then .valid defaultScene else if i < 63 then .blank
      else .incomplete) with start := ⟨.selfCheck, .powerOn⟩ }
    t.link.replies = [⟨0xF0, 0, none, [0, 3, 40, 23, 1]⟩] ∧ t.engine.state = .stalled .clock := by decide +kernel
theorem test_selfCheckEnd_ram_fault :
    (after (.selfCheckEnd true true) State.reset).link.replies.map (·.payload) = [[0, 2, 0, 0, 64]] := by decide +kernel

/-! ### Sample events, frames and the tracker (chapters 1, 4, 5) -/

/-- The dry path alone at 0 dB, pan 0: 2000000 * 11585 / 16384 = 1414184.57, rounded. -/
theorem test_sampleEvent : let t := after (.sampleEvent 2000000) (running 5)
    t.port.formed.map (·.mainLeft) = some 1414185 ∧ ringRead t.engine.ring 1 = 2000000 ∧ t.tracker.framePos = 6 := by
  decide +kernel
theorem test_sampleEvent_while_stalled : after (.sampleEvent 5) up = up := by decide +kernel
/-- 6.8, step 5. -/
theorem test_frameCompletion_follows :
    let s := running 255
    let t := after (.frameCompletion 0) { s with
      working := ⟨sceneNamed 0x41, ⟨.overlay 2 1 false, true⟩, some ⟨1, sceneNamed 0x42⟩⟩ }
    t.working = ⟨sceneNamed 0x42, ⟨.overlay 2 1 false, false⟩, none⟩ ∧ t.tracker.framePos = 0 := by decide +kernel
/-- R19: the onset after a reset reaches the Notice Unit at its frame completion, and awaits the Cue Queue. -/
theorem test_frameCompletion_starts_a_phrase :
    let s := running 255
    let t := after (.frameCompletion 0x100000) { s with tracker := { s.tracker with
      settings := ⟨700, 1400, -50, 70, 50, 6, 30⟩, window := List.replicate 1024 0x100000 } }
    t.tracker.state = .onset ∧ t.notices.isPending .phraseStart = true ∧ t.tracker.phraseStartsAwaiting = 1 := by decide +kernel

/-- The tracker of 1.10 in a state, with its counts. -/
def tracker (st : Voicing) (onset hold silence : Nat) (between : Bool) (held pending : Option Int) : Tracker :=
  { up.tracker with
    settings := { defaultTrackerSettings with hold := 2, phraseGap := 8 }
    state := st, onsetCount := onset, holdCount := hold, silenceCount := silence, betweenPhrases := between, held := held
    jumpPending := pending }

/-- State, counts, held and pending pitch, silence count, "between phrases" and event after a frame. -/
def row (t : Tracker) : (Voicing × Nat × Nat) × (Option Int × Option Int) × Nat × Bool × PhraseEvent :=
  ((t.state, t.onsetCount, t.holdCount), (t.held, t.jumpPending), t.silenceCount, t.betweenPhrases, t.record.event)

/-- 1.10, frame 3, with 1.4's row T16 = 2324, P = 6404. -/
theorem test_tracker_frame3 : row ((tracker .unvoiced 0 0 0 true none none).takeFrame ⟨-30, 2324, 82⟩) =
    ((.onset, 1, 0), (some 6404, none), 0, false, .phraseStart) := by decide +kernel
/-- 1.10, frame 6. -/
theorem test_tracker_frame6 : ((tracker .onset 2 0 0 false (some 6404) none).takeFrame ⟨-27, 2324, 90⟩).state = .voiced := by
  decide +kernel
/-- 1.10, frames 7 and 10, with 1.4's row T16 = 9600, P = 3949. -/
theorem test_tracker_guard :
    (row ((tracker .voiced 0 0 0 false (some 6403) none).takeFrame ⟨-26, 9600, 85⟩)).2.1 = (some 6403, some 3949) ∧
      (row ((tracker .voiced 0 0 0 false (some 6400) (some 3954)).takeFrame ⟨-25, 9600, 88⟩)).2.1 = (some 3949, none) := by
  decide +kernel
/-- 1.10, frames 13 and 20. -/
theorem test_tracker_silence :
    row ((tracker .release 0 1 0 false (some 7598) none).takeFrame ⟨-66, 768, 8⟩) =
        ((.silent, 0, 0), (none, none), 1, false, .none) ∧
      row ((tracker .silent 0 0 7 false none none).takeFrame ⟨-71, 768, 4⟩) =
        ((.silent, 0, 0), (none, none), 8, true, .phraseEnd) := by decide +kernel
/-- 1.4. -/
theorem test_pitch_figures : [768, 1745, 2324, 9600].map (pitchOf · 4400) = [8321, 6900, 6404, 3949] ∧
    pitchOf 549 4150 = 9004 ∧ pitchOf 10971 4660 = 3618 := by decide +kernel
/-- 1.2: full scale is 0 dB, half of it -6, a silent frame -96. -/
theorem test_level_figures : levelOf (2 ^ 54) = 0 ∧ levelOf (2 ^ 52) = -6 ∧ levelOf 0 = -96 := by decide +kernel
/-- 4.4: an octave up past the low guard, Tp 145, from lag 96 with X = 64. -/
theorem test_splice_octave_up :
    let r := moveHeads 16384 145 64 ⟨100, 0, 96⟩ none
    r.active.lag = 530 ∧ r.fade.map (fun f => (f.fading.lag, f.progress)) = some (95, 0) ∧ r.cut = false := by decide +kernel
/-- 4.6: the guard crossing during a crossfade, Tp 300, at event 298. -/
theorem test_splice_during_crossfade :
    let r := moveHeads 32768 300 512 ⟨1000, 0, 96⟩ (some ⟨⟨100, 0, 996⟩, 297, 512⟩)
    r.active.lag = 693 ∧ r.fade.map (fun f => (f.fading.lag, f.progress)) = some (93, 0) ∧ r.cut = true := by decide +kernel
/-- 4.5: F2 + 1 of the reversed envelope. -/
theorem test_reversed_envelope :
    let c : Channel := ⟨.opening, 1 / 2, some ⟨100, 0, 480⟩, none, 8192, .close⟩
    ((c.act 580).stepLevel 2 8).env = .closing ∧ ((c.act 580).stepLevel 2 8).level = 1 / 2 - 1 / 2048 := by decide +kernel
/-- 5.4, the mix figures, and the saturation after them. -/
theorem test_mix_figures :
    let m : Mixer := ⟨.run, 64, false, coeffs 0 0, ⟨coeffs (-12) (-25), coeffs (-12) 25, coeffs (-12) 0, coeffs (-12) 0⟩⟩
    (m.sample 2000000 ⟨1500000, -1000000, 0, 0⟩).out = ⟨1916920, 1238852, 502735, BitVec.ofInt 24 (-175332)⟩ := by
  decide +kernel
theorem test_mix_saturates : let m : Mixer := ⟨.run, 64, false, coeffs 12 (-50), Four.all ⟨0, 0, 0⟩⟩
    (m.sample 6000000 (Four.all 0)).out.mainLeft = 8388607 ∧ (m.sample 6000000 (Four.all 0)).clip = true := by decide +kernel
/-- 5.3, gain and pan figures; -60 dB is silent. -/
theorem test_coefficients : [12, 0, -12, -40, -119, -120].map gainCoeff = [32690, 16384, 8211, 1638, 17, 0] ∧
    [-50, -25, 0, 25, 50].map panLeft = [16384, 15137, 11585, 6270, 0] := by decide +kernel

/-! ### The planner (chapter 3) -/

/-- 3.7. -/
theorem test_ratio_figures : [-2400, -1200, -506, 0, 300, 301, 340, 380, 400, 700, 1200, 2400].map ratioOf =
    [2048, 4096, 6116, 8192, 9742, 9748, 9970, 10203, 10321, 12274, 16384, 32768] := by decide +kernel
/-- 3.11: hysteresis across a bent note. -/
theorem test_hysteresis : [(none, 6438), (some 64, 6462), (some 64, 6466), (some 65, 6390), (some 64, 6334), (some 63, 6440)].map
    (fun x : Option Int × Int => leadNote x.1 x.2 15) = [64, 64, 65, 64, 63, 64] := by decide +kernel

def major : PitchSet := pitchSet [0, 2, 4, 5, 7, 9, 11]
def cMajor (n : Int) (chord : Option PitchSet) : Lead := ⟨n, snap 0 major n, ⟨false, 0, 0, major, .none, chord⟩⟩
def ruleOf (m : VoiceMode) (a : Int) (lo hi : Nat) : VoiceRule := { defaultVoiceRule with mode := m, amount := a, low := lo, high := hi }

/-- 3.4, the mode figures. -/
theorem test_mode_figures :
    let am := cMajor 64 (some (pitchSet [9, 0, 4]))
    [ruleOf .scale 2 24 108, ruleOf .scale (-3) 24 108, ruleOf .chord 1 24 108, ruleOf .chord 2 24 108, ruleOf .chord (-1) 24 108,
      ruleOf .chord (-2) 24 108, ruleOf .semitone (-5) 24 108, ruleOf .drone 48 24 108].map (modeNote am) =
      [some 67, some 59, some 69, some 72, some 60, some 57, some 59, some 48] := by decide +kernel
theorem test_mode_figures_fallback :
    [ruleOf .chord 1 24 108, ruleOf .chord (-2) 24 108].map (modeNote (cMajor 64 none)) = [some 67, some 57] ∧
      snap 0 major 66 = 65 ∧ modeNote (cMajor 66 none) (ruleOf .scale 2 24 108) = some 70 := by decide +kernel
/-- 3.5, the fold figures. -/
theorem test_fold_figures : [fold 48 72 76, fold 48 84 36, fold 55 67 90, fold 60 72 40, fold 58 70 70] = [64, 48, 66, 64, 70] := by
  decide +kernel
/-- 3.6, the collision figures. -/
theorem test_collision_figures :
    (placeAll (cMajor 64 (some (pitchSet [9, 0, 4]))) true (fun _ => true)
      ⟨ruleOf .drone 59 24 108, ruleOf .scale (-2) 24 108, ruleOf .chord (-1) 24 108, ruleOf .semitone (-4) 24 108⟩).toList =
      [⟨some 59, false⟩, ⟨some 60, false⟩, ⟨some 57, false⟩, ⟨none, true⟩] := by decide +kernel
/-- 3.11, the reference case. -/
theorem test_reference_case :
    let sc : Scene := { defaultScene with
      correction := 60, glide := 40, tonic := 2
      voices := ⟨{ ruleOf .scale 2 55 79 with detune := 3 }, { ruleOf .scale (-3) 48 72 with detune := -4 }, defaultVoiceRule,
        defaultVoiceRule⟩ }
    let rc : FrameRecord := ⟨.voiced, -20, 90, 2324, some 6404, some 2324, .none⟩
    let r := plannerAtRest.completeFrame rc (keyDefaults.view sc) sc .run (Four.all .closed)
    [r.voices.v0, r.voices.v1].map (fun v => (v.planned, v.notePart, v.shift, v.ratio, v.command)) =
      [(some 67, 300, 301, 9748, .open), (some 59, -500, -506, 6116, .open)] := by decide +kernel

/-! ### The audio clock (chapter 5) -/

theorem test_frameClockEdge : let t := after .frameClockEdge { running 0 with port := { (running 0).port with formed := some ⟨1, 2, 3, 4⟩ } }
    t.port.sending = ⟨1, 2, 3, 4⟩ ∧ t.port.formed = none ∧ t.port.windowCount = 1 := by decide +kernel
theorem test_clockGapTimeout : let t := after .clockGapTimeout (running 0)
    t.engine.state = .stalled .clock ∧ t.notices.isPending .audioClock = true ∧ t.port.clock = .absent := by decide +kernel
/-- R104, R105: a count of 491 loses a PRESENT clock; the second qualifying window in a row declares an ABSENT one present. -/
theorem test_measurementWindowEnd :
    let t := after .measurementWindowEnd { up with port := { up.port with qualifying := 1, windowCount := 490 } }
    t.engine.state = .running ∧ t.port.clock = .present ∧ t.port.lastWindowCount = 490 ∧
      (after .measurementWindowEnd { running 0 with port := { (running 0).port with windowCount := 491 } }).port.clock = .absent := by
  decide +kernel
/-- R114: in RAM FAULT the ramp too is set anew when the clock returns, to 0 in BYPASS. -/
theorem test_measurementWindowEnd_in_ram_fault :
    let t := after .measurementWindowEnd { up with
      port := { up.port with qualifying := 1, windowCount := 470 }, mixer := { up.mixer with mode := .bypass }
      engine := { up.engine with state := .stalled .ramFault } }
    t.engine.state = .stalled .ramFault ∧ t.port.clock = .present ∧ t.mixer.ramp = 0 := by decide +kernel
/-! ### The link (chapter 9) -/

def inBody (n : Nat) (bs : List Byte) : State := { up with link := { up.link with assembler := .body n bs } }
def inLength : State := { up with link := { up.link with assembler := .length } }

theorem test_receivedByte : (after (.receivedByte 0x7E false) up).link.assembler = .length ∧
    (after (.receivedByte 0x42 false) up).link.assembler = .hunt ∧
    (after (.receivedByte 250 false) inLength).link.assembler = .body 250 [] := by decide +kernel
theorem test_frameReceived : (after (.frameReceived 0x09) (inBody 2 [0x46])).link.fifo = [.frame 0x46 9 []] := by decide +kernel
/-- 9.8: request 5 finds the FIFO full. -/
theorem test_frameReceived_overrun :
    let full : List FifoEntry := [.frame 1 1 [], .frame 1 2 [], .frame 1 3 [], .frame 1 4 []]
    let t := after (.frameReceived 5) { inBody 2 [1] with link := { (inBody 2 [1]).link with fifo := full } }
    t.link.fifo = full ∧ t.notices.isPending .linkOverrun = true := by decide +kernel
theorem test_receiveFault : (after (.receiveFault 251 false) inLength).link.fifo = [.fault .length] ∧
    (after (.receiveFault 4 true) inLength).link.fifo = [.fault .stop] := by decide +kernel
theorem test_receiveGapTimeout : (after .receiveGapTimeout (inBody 3 [1])).link.fifo = [.fault .gap] ∧
    after .receiveGapTimeout up = up := by decide +kernel
theorem test_badFrame : (after (.badFrame .gap) (State.asked up (.fault .gap))).link.replies = [⟨0xFF, 0, some 0x10, [2]⟩] := by
  decide +kernel
theorem test_unknownKind :
    (after (.unknownKind 0x90 4 [1]) (State.asked up (.frame 0x90 4 [1]))).link.replies = [⟨0xFE, 4, some 0x11, [0x90]⟩] ∧
      (after (.unknownKind 0x47 4 []) (State.asked up (.frame 0x47 4 []))).link.replies = [⟨0xC7, 4, some 0x11, []⟩] := by
  decide +kernel
theorem test_transmitComplete :
    (after .transmitComplete { up with link := { up.link with replies := [⟨1, 1, none, []⟩, ⟨2, 2, none, []⟩] } }).link.replies =
      [⟨2, 2, none, []⟩] := by decide +kernel
theorem test_reset_stops_dispatch : (run (.reset 1 []) up).link.stopped = true ∧ said (run (.reset 1 [0]) up) = [0x12] := by
  decide +kernel
/-- The bytes of a reply frame: start, L, kind + 80h, sequence, code, payload (9.2). -/
theorem test_reply_bytes : (run (.clearNotices 7 [0, 0xFF]) up).link.replies.map ReplyFrame.bytes = [[0x7E, 3, 0xE1, 7, 0]] := by
  decide +kernel

/-! ### Status and setup (chapters 1, 3, 5) -/

theorem test_getStatus : said (run (.getStatus 1 []) { up with port := { up.port with lastWindowCount := 480 } }) =
    [0, 1, 0, 0, 0x01, 0xE0, 0, 64] := by decide +kernel
theorem test_monitor_at_rest : said (run (.monitor 1 []) up) =
    [0, 0, 0xFF, 0xFF, 0, 0xA0, 0, 0xFF, 0xFF, 0, 0, 0] ++ (List.replicate 4 [0, 0xFF, 0, 0, 0xFF, 0xFF, 0]).flatten := by
  decide +kernel
theorem test_setEngineMode : (run (.setEngineMode 1 [1]) up).mixer.mode = .bypass ∧ said (run (.setEngineMode 1 [2]) up) = [0x13] := by
  decide +kernel
theorem test_setTuning : said (run (.setTuning 1 [0x10, 0]) up) = [0, 0x10, 0x36] ∧ said (run (.setTuning 1 [0xFF, 0xFF]) up) =
    [0, 0x12, 0x34] := by decide +kernel
/-- 1.3, the clamping examples 50, 90 and 900, 1000. -/
theorem test_setTracker : said (run (.setTracker 1 [0, 50, 0, 90, 0xCE, 70, 50, 6, 30]) up) =
    [0, 0, 70, 0, 140, 0xCE, 70, 50, 6, 30] ∧
    said (run (.setTracker 1 [0x03, 0x84, 0x03, 0xE8, 0, 20, 99, 61, 7]) up) = [0, 0x02, 0xBC, 0x05, 0x78, 0xE8, 30, 30, 60, 8] := by
  decide +kernel
theorem test_search_ranges : [(⟨80, 1000, -50, 70, 50, 6, 30⟩ : TrackerSettings), ⟨70, 140, -50, 70, 50, 6, 30⟩,
    ⟨700, 1400, -50, 70, 50, 6, 30⟩].map (fun c => (c.tLo, c.tHi)) = [(768, 9600), (5486, 10971), (549, 1097)] := by decide +kernel
theorem test_readSetup : (said (run (.readSetup 1 []) up)).length = 81 ∧ (said (run (.readSetup 1 []) up)).take 14 =
    [0, 0, 80, 0x03, 0xE8, 0xCE, 70, 50, 6, 30, 0x11, 0x30, 0x0A, 0xB5] := by decide +kernel

/-! ### Key and chord (chapter 2) -/

/-- 2.9, steps 4 and 6. -/
theorem test_note_progression :
    let t := run (.note 1 [60, 1]) (held [50, 54, 57] (.active 2 0))
    said t = [0, 0, 0xFF, 4, 1, 2, 2] ∧ t.notices.isPending .chordChanged = true ∧
      said (run (.note 1 [50, 0]) (held [50, 54, 57, 60] (.active 2 2))) = [0, 3, 0xFF, 3, 1, 6, 7] := by decide +kernel
/-- 2.9, overflow, step 1. -/
theorem test_note_overflow :
    let t := run (.note 1 [50, 1]) (held [48, 52, 55, 59, 60, 64, 67, 71, 72, 76] (.active 0 4))
    said t = [0, 1, 48, 10, 1, 0, 4] ∧ t.key.notes = [52, 55, 59, 60, 64, 67, 71, 72, 76, 50] ∧
      (t.notices.isPending .setOverflow && t.notices.isPending .chordUnrecognized) = true := by decide +kernel
/-- 2.9, step 13. -/
theorem test_notesClear : (run (.notesClear 1 []) (held [] (.latched 0 0))).key.context = .none ∧
    (run (.notesClear 1 []) (held [] (.latched 0 0))).notices.isPending .chordChanged = true := by decide +kernel
theorem test_setScale : said (run (.setScale 1 [15, 0xF0, 0x92]) up) = [0, 15, 0x00, 0x93] ∧
    said (run (.setScale 1 [16, 0, 1]) up) = [0x13] := by decide +kernel
theorem test_setTemplate : said (run (.setTemplate 1 [11, 0x04, 0x90, 16]) up) = [0, 11, 0x04, 0x91, 15] := by decide +kernel
theorem test_setChordPolicy : said (run (.setChordPolicy 1 [1]) up) = [0, 1] ∧ said (run (.setChordPolicy 1 [2]) up) = [0x13] := by
  decide +kernel
/-- 2.9 after step 9: A minor from 57 and 60. -/
theorem test_readContext : said (run (.readContext 1 []) (held [57, 60] (.active 9 1))) =
    [0, 2, 57, 60] ++ List.replicate 8 0xFF ++ [1, 9, 1, 0x02, 0x11, 0, 0, 0, 0] := by decide +kernel

/-! ### Notices (chapter 10) -/

/-- 10.4, step 3. -/
theorem test_configureNotices : said (run (.configureNotices 1 [5, 3, 1, 2, 4, 7, 7, 3, 1, 7, 2]) up) =
    [0, 5, 3, 1, 2, 4, 7, 3, 3, 1, 7, 2] := by decide +kernel

/-- The Notice Unit of 10.4 after step 7. -/
def noticed : State := { up with notices := (({ up.notices with
  enabled := #v[7, 3, 3, 1, 7], levels := #v[5, 3, 1, 2, 4], mask := 2 } : Notices).raise .cueLanded).raise .phraseStart }

/-- 10.4, steps 8 and 10. -/
theorem test_readNotices : said (run (.readNotices 1 []) noticed) = [0, 0, 0, 1, 1, 0, 0, 1, 1, 0, 0, 0, 0, 1] ∧
    noticed.notices.attnLow = true := by decide +kernel
theorem test_clearNotices : let t := run (.clearNotices 1 [1, 7]) noticed
    t.notices.attnLow = false ∧ t.notices.isPending .phraseStart = true ∧ said (run (.clearNotices 1 [6, 7]) noticed) = [0x13] := by
  decide +kernel

/-! ### Scenes (chapter 6) -/

/-- The store of 6.8 with the overlay as given. -/
def rehearsal (mapped : Option Nat) (origin : OriginSource) : State :=
  { stored (fun i => if i = 16 then .valid (sceneNamed 0x56) else if i = 17 then .valid (sceneNamed 0x43) else if i = 23 then
      .incomplete else .blank) with
    overlay := { mapped := mapped, ram := #v[some (sceneNamed 0x56), some (sceneNamed 0x44), none, none, none, none, none, none] }
    working := ⟨sceneNamed 0x56, ⟨origin, true⟩, none⟩ }

/-- 6.8, steps 2 and 11. -/
theorem test_loadScene :
    let t := run (.loadScene 1 [2, 1]) (rehearsal (some 2) (.slot 2 0))
    said t = [0, 2, 2, 1, 0xFF, 0] ∧ t.working.scene = sceneNamed 0x44 ∧
      (run (.loadScene 1 [2, 1]) (rehearsal none .default)).working = ⟨sceneNamed 0x43, ⟨.slot 2 1, false⟩, none⟩ := by
  decide +kernel
/-- 6.8, step 8. -/
theorem test_loadScene_not_valid : said (run (.loadScene 1 [2, 7]) (rehearsal (some 2) (.slot 2 0))) = [0x26] ∧
    said (run (.loadScene 1 [8, 0]) up) = [0x13] := by decide +kernel
theorem test_loadInlineScene : let p := (sceneNamed 0x41).bytes
    said (run (.loadInlineScene 1 p) up) = [0, 0] ∧ (run (.loadInlineScene 1 p) up).working.scene = sceneNamed 0x41 ∧
      said (run (.loadInlineScene 1 (p.set 12 0x0C)) up) = [0, 1] ∧ said (run (.loadInlineScene 1 (p.set 21 4)) up) = [0x13] := by
  decide +kernel

/-- A state whose voice 0 has a rule. -/
def voiced (r : VoiceRule) : State :=
  { up with working := { up.working with scene := { defaultScene with voices := defaultScene.voices.set 0 r } } }

/-- 6.6: lower bound 72 on 48..60, mode DRONE from OFF with amount 0. -/
theorem test_editWorkingScene_repairs :
    said (run (.editWorkingScene 1 [0x12, 0, 0, 72]) (voiced (ruleOf .off 0 48 60))) = [0, 0x12, 0, 0, 72, 0, 84, 1] ∧
      said (run (.editWorkingScene 1 [0x10, 0, 0, 4]) (voiced (ruleOf .off 0 48 84))) = [0, 0x10, 0, 0, 4, 0, 24, 1] := by
  decide +kernel
theorem test_editWorkingScene_clamps : said (run (.editWorkingScene 1 [0x0A, 9, 0xFF, 0]) up) = [0, 0x0A, 9, 0xFF, 0x88, 0xFF, 0xFF, 1] ∧
    said (run (.editWorkingScene 1 [0x10, 4, 0, 1]) up) = [0x13] ∧ (run (.editWorkingScene 1 [1, 0, 0, 5]) up).working.origin.edited = true := by
  decide +kernel
theorem test_readWorkingScene : said (run (.readWorkingScene 1 []) up) = [0] ++ defaultScene.bytes ++ [0, 0xFF, 0xFF, 0xFF, 0, 0] := by
  decide +kernel
/-- 9.7: the default scene's bytes. -/
theorem test_scene_bytes : defaultScene.bytes = defaultName ++ [0, 0, 0, 100, 15, 0, 0, 0, 128, 1, 0, 0, 2, 8] ++
    (List.replicate 4 [0, 0, 48, 84, 0, 0xF4, 0, 0]).flatten := by decide +kernel
/-- 6.3, the range figures. -/
theorem test_range_figures : [repairRange 60 66, repairRange 100 104, repairRange 20 30, repairRange 80 50, repairRange 48 84] =
    [(60, 72), (96, 108), (24, 36), (80, 92), (48, 84)] := by decide +kernel
/-- 6.8, step 1. -/
theorem test_overlayOn : let t := run (.overlayOn 1 [2]) (rehearsal none (.slot 2 0))
    said t = [0, 2, 1, 1, 0, 0, 0, 0, 0, 0] ∧ t.overlay.mapped = some 2 ∧ t.overlay.recordAt 1 = some (sceneNamed 0x43) := by
  decide +kernel
/-- 6.8, step 9. -/
theorem test_overlayOff : let t := run (.overlayOff 1 []) (rehearsal (some 2) (.overlay 2 1 false))
    said t = [0, 2] ∧ t.working.origin.source = .overlay 2 1 true ∧ said (run (.overlayOff 1 []) up) = [0, 0xFF] := by decide +kernel
/-- 6.8, steps 4 and 6. -/
theorem test_overlayWrite :
    (run (.overlayWrite 1 (1 :: (sceneNamed 0x42).bytes)) (rehearsal (some 2) (.overlay 2 1 false))).working.follow =
        some ⟨1, sceneNamed 0x42⟩ ∧
      (run (.overlayWrite 1 (2 :: (sceneNamed 0x42).bytes)) (rehearsal (some 2) (.overlay 2 1 false))).working.follow = none := by
  decide +kernel
theorem test_overlayRead : said (run (.overlayRead 1 [1]) (rehearsal none .default)) = [0, 1] ++ (sceneNamed 0x44).bytes ∧
    said (run (.overlayRead 1 [2]) (rehearsal none .default)) = [0, 0] := by decide +kernel

/-! ### Cues (chapter 7) -/

/-- 7.11, step 1 (without the record's text). -/
theorem test_enqueueCue :
    let t := run (.enqueueCue 1 [10, 0, 2, 0, 1, 8, 0, 0]) (rehearsal none .default)
    said t = [0, 10, 1, 1, 1, 0] ∧ t.cues.queue.map (fun c => (c.tag, c.trigger, c.state)) = [(10, .beats 8, .armed)] := by
  decide +kernel
theorem test_enqueueCue_duplicate :
    let t := run (.enqueueCue 1 [11, 0, 2, 0, 0, 0, 0, 0]) (queued [cue10, cue11 .queued] 3)
    said t = [0x31, 2] ∧ t.cues = ⟨[], 0, [⟨10, .queueAbort, .armed, 3, false⟩, ⟨11, .queueAbort, .queued, 0, false⟩]⟩ := by
  decide +kernel
/-- 7.11, step 8; and a LANDING head forced. -/
theorem test_fire : said (run (.fire 1 []) (queued [cue11 .armed, cue12 .queued] 5)) = [0, 11, 1, 0xFF] ∧
    said (run (.fire 1 []) (queued [cue11 .landing] 5)) = [0, 11, 2, 3] := by decide +kernel
/-- 7.11, step 6. -/
theorem test_beat_lands :
    let t := run (.beat 1 []) (queued [cue10, cue11 .queued, cue12 .queued] 7)
    said t = [0, 10, 8, 2, 0] ∧ t.cues = ⟨[cue11 .armed, cue12 .queued], 0, [⟨10, .landed .trigger, .armed, 8, false⟩]⟩ ∧
      t.working = ⟨cue10.scene, ⟨.cue 10, false⟩, none⟩ := by decide +kernel
/-- 7.11, the two orders: the 16th beat lands cue 11 with DEADLINE; step 12. -/
theorem test_beat_deadline : said (run (.beat 1 []) (queued [cue11 .landing, cue12 .queued] 15)) = [0, 11, 16, 2, 2] ∧
    said (run (.beat 1 []) up) = [0x02] := by decide +kernel
/-- 7.11, steps 10 and 11. -/
theorem test_phraseStart :
    let s := queued [cue11 .landing, cue12 .queued] 8
    let t := after .phraseStart { s with tracker := { s.tracker with phraseStartsAwaiting := 2 } }
    t.cues = ⟨[cue12 .armed], 0, [⟨11, .landed .phrase, .landing, 8, false⟩]⟩ ∧ t.tracker.phraseStartsAwaiting = 1 := by
  decide +kernel
theorem test_cancelCue : let t := run (.cancelCue 1 [10]) (queued [cue10, cue11 .queued] 3)
    said t = [0, 10, 1, 1] ∧ t.cues.queue = [cue11 .armed] ∧ said (run (.cancelCue 1 [9]) (queued [cue10] 3)) = [0x32] := by
  decide +kernel
theorem test_clearCues : said (run (.clearCues 1 []) (queued [cue10, cue11 .queued] 3)) = [0, 2] ∧
    (run (.clearCues 1 []) up).notices = up.notices := by decide +kernel
theorem test_listCues : said (run (.listCues 1 []) (queued [cue10, cue11 .queued] 3)) =
    [0, 2, 3, 10, 1, 1, 8, 0, 0, 1, 0xFF, 0xFF, 11, 0, 0, 0xFF, 1, 16, 1, 0xFF, 0xFF] := by decide +kernel
theorem test_readCueResults :
    let t := run (.readCueResults 1 []) { up with cues := ⟨[], 0, [⟨10, .landed .trigger, .armed, 8, false⟩]⟩ }
    said t = [0, 1, 10, 0, 0, 1, 8, 0] ∧ t.cues.results = [] := by decide +kernel
/-- 7.11, preemption into a full results list: the seventeenth entry drops the oldest and carries the overflow mark. -/
theorem test_results_overflow :
    let old : CueResult := ⟨1, .cleared, .queued, 0, false⟩
    let s := queued [cue10, cue11 .queued] 3
    let t := run (.clearCues 1 []) { s with cues := { s.cues with results := List.replicate 15 old } }
    t.cues.results = List.replicate 14 old ++ [⟨10, .cleared, .armed, 3, false⟩, ⟨11, .cleared, .queued, 0, true⟩] ∧
      t.notices.isPending .resultsOverflow = true := by decide +kernel

/-! ### The Scene Store (chapter 8) -/

theorem test_readSlot : said (run (.readSlot 1 [2, 1]) (rehearsal none .default)) = [0, 0, 1] ++ (sceneNamed 0x43).bytes ∧
    said (run (.readSlot 1 [2, 7]) (rehearsal none .default)) = [0, 0, 2] := by decide +kernel
/-- 8.12, requests during an erase of bank 2. -/
theorem test_requests_during_an_erase :
    let s := working (rehearsal none .default) (opOf (.erase 2 (.pulse 1)) 0 0 false)
    said (run (.readSlot 1 [2, 5]) s) = [0x20] ∧ said (run (.readSlot 1 [3, 5]) s) = [0, 0, 0] ∧
      said (run (.loadScene 1 [2, 0]) s) = [0x20] ∧ said (run (.programSlot 1 (3 :: 6 :: defaultScene.bytes)) s) = [0x20] ∧
      said (run (.freezeStore 1 []) s) = [0x20] ∧ said (run (.overlayOn 1 [3]) s) = [0x20] := by decide +kernel
theorem test_programSlot : let t := run (.programSlot 1 (4 :: 3 :: defaultScene.bytes)) up
    said t = [1, 4, 3, 0] ∧ t.store.op = some (opOf (.program 4 3 defaultScene .mark) 0 0 false) ∧
      said (run (.programSlot 1 (2 :: 0 :: defaultScene.bytes)) (rehearsal none .default)) = [0x25] := by decide +kernel
theorem test_eraseBank : said (run (.eraseBank 1 [2]) (rehearsal none .default)) = [1, 2] ∧
    said (run (.eraseBank 1 [2]) (rehearsal (some 5) .default)) = [0x24] := by decide +kernel
theorem test_storeStatus_without_operation : said (run (.storeStatus 1 ⟨[], 5⟩) up) =
    [0, 0] ++ List.replicate 8 0xFF ++ [0, 0, 1, 0xFF] ++ List.replicate 64 0 ++ [0, 64, 0] := by decide +kernel
/-- 8.12: an erase of bank 2 in its fourth pulse, read 3 ms into it, 45 ms after it was accepted. -/
theorem test_storeStatus_in_flight :
    let t := run (.storeStatus 1 ⟨[], 3000⟩) (working up (opOf (.erase 2 (.pulse 4)) 42000 0 false))
    (said t).take 10 = [0, 2, 2, 0xFF, 0, 2, 4, 0, 45, 0xFF] ∧
      (after (.erasePulseVerify false) t).store.op.map (·.elapsedMicros) = some 52500 := by decide +kernel
theorem test_freezeStore : (run (.freezeStore 1 []) up).store.frozen = true := by decide +kernel
/-- 8.12: the first MARK pulse makes slot 4, 3 INCOMPLETE. -/
theorem test_programmingVoltageReady :
    let t := after (.programmingVoltageReady 5) (working up (opOf (.program 4 3 defaultScene .mark) 0 0 false))
    t.store.stateAt 4 3 = .incomplete ∧ t.store.op = some (opOf (.program 4 3 defaultScene .mark) 5 1 true) := by decide +kernel
/-- 8.12: word 17 at its third pulse, and the valid mark. -/
theorem test_storePulseVerify :
    (after (.storePulseVerify true) (working up (opOf (.program 4 3 defaultScene (.write 17)) 2400 3 true))).store.op =
        some (opOf (.program 4 3 defaultScene (.write 18)) 2520 0 false) ∧
      (let t := after (.storePulseVerify true) (working up (opOf (.program 4 3 defaultScene .commit) 3840 1 true))
       t.store.recordAt 4 3 = some defaultScene ∧ t.notices.isPending .storeDone = true ∧
        t.store.op.map (fun o => (o.status, o.elapsedMicros)) = some (.done, 3960)) := by decide +kernel
theorem test_storePulseVerify_twelfth_fails :
    let t := after (.storePulseVerify false) (working up (opOf (.program 4 3 defaultScene (.write 0)) 0 12 true))
    t.store.op.map (·.status) = some (.failed .verify) ∧ t.store.latch = true ∧ t.notices.isPending .storeFault = true := by
  decide +kernel
theorem test_erasePulseVerify :
    let s := rehearsal none .default
    let t := after (.erasePulseVerify true) (working s (opOf (.erase 2 (.pulse 60)) 0 0 false))
    t.store.stateAt 2 0 = .blank ∧ t.store.stateAt 2 7 = .blank ∧ t.store.op.map (·.elapsedMicros) = some 10500 ∧
      (after (.erasePulseVerify false) (working s (opOf (.erase 2 (.pulse 59)) 0 0 false))).store.op.map (·.work) =
        some (.erase 2 (.pulse 60)) := by decide +kernel
theorem test_timerExpiry :
    let t := after .timerExpiry (working up (opOf (.erase 1 (.pulse 4)) 42000 0 false))
    t.store.op.map (fun o => (o.status, o.elapsedMicros)) = some (.failed .timer, 1500000) ∧ after .timerExpiry up = up := by
  decide +kernel
/-- 8.12, an erase that loses its supply at 64 ms. -/
theorem test_supplyLoss :
    let t := after (.supplyLoss 1000) (working up (opOf (.erase 1 (.pulse 4)) 63000 0 false))
    t.store.op = some ⟨.erase 1 (.pulse 4), .failed .supply, 64000, 0, false, 0⟩ ∧ t.store.latch = true ∧
      t.notices.isPending .storeFailed = true := by decide +kernel
theorem test_storeSupplyRestored :
    (after .storeSupplyRestored { up with store := { up.store with supplyHigh := false } }).store.supplyHigh = true := by
  decide +kernel

/-! ### Witnesses: states and operands that meet the hypotheses of each obligation, each clause at the ends of its range -/

/-- A state whose FIFO holds one request, sequence 1. -/
def frm (s : State) (kind : Byte) (p : List Byte) : State := State.asked s (.frame kind 1 p)

/-- The request can be taken. -/
abbrev Asks (s : State) (kind : Byte) (p : List Byte) : Prop := (frm s kind p).Takes (.frame kind 1 p) []

theorem test_witness_StepRunsTheFrontCommand :
    { up with pending := [.phraseStart, .beat 1 []] }.pending = .phraseStart :: [.beat 1 []] ∧ up.pending = [] := by decide +kernel
theorem test_witness_CommandsChangeOnlyTheirBlocks : .key ∉ mayChange (.sampleEvent 0) := by decide +kernel
theorem test_witness_ResetnReleaseAndSoftReset : { up with start := ⟨.pinHeld, .pin⟩ }.start.phase = .pinHeld ∧
    (let s := { up with link := { up.link with stopped := true } }
     s.start.phase = .up ∧ s.link.stopped = true ∧ s.link.replies = []) := by decide +kernel
theorem test_witness_SelfCheckEnds : State.reset.start.phase = .selfCheck := by decide +kernel
theorem test_witness_SampleEventsRun :
    (∀ pos ∈ [0, 254], let s := running pos
      s.engine.state = .running ∧ s.tracker.framePos < 255 ∧ ringWf s.engine.ring = true) ∧ up.engine.state ≠ .running := by
  decide +kernel
theorem test_witness_FrameCompletionsRun : (running 255).engine.state = .running ∧ (running 255).tracker.framePos = 255 ∧
    ringWf (running 255).engine.ring = true := by decide +kernel

/-- Whether a frame's level and confidence reach the gate and the two thresholds (-50, 70, 50). -/
def reaches (t : Tracker) (m : Measures) : Bool × Bool × Bool :=
  (t.settings.gate ≤ m.level, t.settings.qOn ≤ m.q, t.settings.qOff ≤ m.q)

theorem test_witness_VoicingTransitions :
    let t := tracker .silent 0 2 0 true none none
    [⟨-51, 768, 70⟩, ⟨-50, 768, 70⟩, ⟨-50, 768, 69⟩, ⟨-50, 768, 50⟩, ⟨-50, 768, 49⟩].map (reaches t) =
        [(false, true, true), (true, true, true), (true, false, true), (true, false, true), (true, false, false)] ∧
      (tracker .onset 2 0 0 false (some 1) none).onsetCount + 1 = 3 ∧ (tracker .onset 1 0 0 false (some 1) none).onsetCount + 1 ≠ 3 ∧
      (1 ≤ t.settings.hold ∧ ¬1 ≤ { t.settings with hold := 0 }.hold) ∧
      [1, 2].all (fun n => 1 ≤ (tracker .release 0 n 0 false (some 1) none).holdCount) = true := by decide +kernel

/-- States and held pitches around a VOICED frame of pitch 3949. -/
def guardCase (held pending : Int) : Voicing × Bool × Bool :=
  let t := tracker .voiced 0 0 0 false (some held) (some pending)
  let p := pitchOf 9600 t.fRef
  ((t.takeFrame ⟨-20, 9600, 80⟩).state, (p - pending).natAbs ≤ 100, 700 < (p - held).natAbs)

theorem test_witness_HeldPitchAndGuard :
    [guardCase 6403 4049, guardCase 4650 4050, guardCase 4649 4050] =
        [(.voiced, true, true), (.voiced, false, true), (.voiced, false, false)] ∧
      ((tracker .voiced 0 0 0 false (some 6403) none).takeFrame ⟨-20, 9600, 49⟩).state = .release ∧
      ((tracker .silent 0 0 0 false none none).takeFrame ⟨-20, 9600, 70⟩).state = .onset ∧
      ((tracker .release 0 2 0 false (some 6403) none).takeFrame ⟨-20, 9600, 70⟩).state = .voiced ∧
      ((tracker .silent 0 0 0 false none none).takeFrame ⟨-20, 9600, 69⟩).state = .unvoiced ∧
      ((tracker .silent 0 0 0 false none none).takeFrame ⟨-51, 9600, 69⟩).state = .silent := by decide +kernel
theorem test_witness_SilenceAndPhrases :
    (∀ n ∈ [7, 254, 255], let t := tracker .silent 0 0 n false none none
      let r := t.takeFrame ⟨-51, 768, 0⟩
      r.state = .silent ∧ t.silenceCount ≤ 255 ∧ t.betweenPhrases = false ∧ t.settings.phraseGap ≤ r.silenceCount) ∧
      (let r := (tracker .silent 0 0 6 false none none).takeFrame ⟨-51, 768, 0⟩
       r.state = .silent ∧ ¬8 ≤ r.silenceCount) ∧
      (let t := tracker .unvoiced 0 0 0 true none none
       (t.takeFrame ⟨-20, 768, 90⟩).state = .onset ∧ t.betweenPhrases = true) ∧
      ((tracker .unvoiced 0 0 0 false none none).takeFrame ⟨-20, 768, 90⟩).state ≠ .silent := by decide +kernel
theorem test_witness_LevelAndPeriodMeasures :
    (-96 < levelOf (energy (newest (List.replicate 1024 1000))) ∧ levelOf (energy (newest (List.replicate 1024 1000))) < 0) ∧
      levelOf (energy (newest (List.replicate 1024 0))) = -96 ∧
      levelOf (energy (newest (List.replicate 1024 (BitVec.ofInt 24 (-8388608))))) = 0 ∧
      (⟨70, 140, -72, 30, 20, 0, 8⟩ : TrackerSettings).Ok ∧ (⟨700, 1400, -24, 95, 95, 60, 250⟩ : TrackerSettings).Ok := by
  decide +kernel
theorem test_witness_PeakAndConfidence :
    let p := fun (x : Sample) => (peak (List.replicate 1024 x) (energy (newest (List.replicate 1024 x))) 34 35).2.num
    34 ≤ 35 ∧ 686 ≤ 686 ∧ p 0 ≤ 0 ∧ 0 < p 1 := by decide +kernel
theorem test_witness_PitchRoundsInRange : (PeriodOk 549 ∧ 4150 ≤ 4150 ∧ 4150 ≤ 4660) ∧ (PeriodOk 10971 ∧ 4150 ≤ 4660 ∧ 4660 ≤ 4660) := by
  decide +kernel
theorem test_witness_LeadNoteAndSnap : ((6465 - 100 * 64 : Int).natAbs ≤ 50 + 15 ∧ 50 + 15 < (6466 - 100 * 64 : Int).natAbs) ∧
    major.getLsbD 0 = true ∧ inKey 0 major 66 = false ∧ inKey 0 major 65 = true := by decide +kernel
theorem test_witness_VoiceModeNotes : (∃ c, c < 12 ∧ (pitchSet [11]).getLsbD c = true) ∧
    [VoiceMode.off, .scale, .chord, .semitone, .drone].map (fun m => (ruleOf m 0 24 108).mode) = [.off, .scale, .chord, .semitone, .drone] ∧
    (cMajor 64 (some major)).view.chordTones = some major ∧ (cMajor 64 none).view.chordTones = none :=
  ⟨⟨11, by decide +kernel⟩, by decide +kernel⟩
theorem test_witness_FoldIntoTheRange : 24 + 12 ≤ 36 ∧ 24 + 12 ≤ 108 := by decide

/-- Four voices in collision on a lead of 60: the fixed voice 1 keeps its note, voice 2 moves once, voice 3, in one octave of a
key of one class, finds both moves taken. -/
def clashRules : Four VoiceRule :=
  ⟨ruleOf .drone 60 60 72, ruleOf .drone 60 60 72, ruleOf .semitone 12 60 72, ruleOf .semitone 24 60 72⟩

/-- A lead of note 60 in a key of the one class 0. -/
def oneClass : Lead := { cMajor 60 none with view := { (cMajor 60 none).view with scaleSet := 1 } }

theorem test_witness_CollisionsResolved :
    clashRules.toList.all (fun v => v.low + 12 ≤ v.high) = true ∧
      (placeAll oneClass true (fun _ => true) clashRules).toList =
        [⟨some 60, false⟩, ⟨some 60, false⟩, ⟨some 72, false⟩, ⟨none, true⟩] ∧
      clashRules.toList.map VoiceRule.movable = [false, false, true, true] ∧
      clashRules.toList.map (modeNote oneClass) = [some 60, some 60, some 72, some 84] ∧
      [60, 72].map (collisionMove oneClass clashRules.v3) = [72, 72] ∧ oneClass.view.scaleSet.getLsbD 0 = true := by decide +kernel
theorem test_witness_PlannerAtAFrameCompletion :
    let rc : Voicing → Option Int → FrameRecord := fun v h => ⟨v, -20, 90, 2324, h, some 2324, .none⟩
    let sc : Scene := { defaultScene with voices := ⟨ruleOf .scale 2 55 79, ruleOf .drone 48 48 60, defaultVoiceRule, defaultVoiceRule⟩ }
    let placed := placeAll (cMajor 64 none) true (fun _ => true) sc.voices
    (rc .silent none).state = .silent ∧ (sc.voices.toList.any fun v => v.policy = .hold) = false ∧
      ([Voicing.onset, .voiced, .release].all fun v => (rc v (some 6404)).held = some 6404) = true ∧
      placed.toList.map (·.note) = [some 67, some 48, none, none] := by decide +kernel
theorem test_witness_RatioAndCoefficientsRound : ((-2400 : Int) ≤ -2400 ∧ (-2400 : Int) ≤ 2400 ∧ (2400 : Int) ≤ 2400) ∧
    ((-120 : Int) < -119 ∧ (-119 : Int) ≤ 12 ∧ (12 : Int) ≤ 12) ∧ (-50 : Int) ≤ -50 ∧ (-50 : Int) ≤ 50 ∧ (50 : Int) ≤ 50 := by decide

/-- Lags after a head's advance: both guards at their edges. -/
theorem test_witness_HeadsAdvanceAndSplice :
    [(⟨⟨100, 0, 96⟩, 32768⟩ : Head × Nat), ⟨⟨100, 0, 96⟩, 16384⟩, ⟨⟨100, 0, 97⟩, 16384⟩, ⟨⟨100, 0, 1536⟩, 2048⟩, ⟨⟨100, 8191, 1536⟩, 2048⟩].map
        (fun x => (x.1.advance x.2).lag) = [93, 95, 96, 1537, 1536] ∧
      (∀ h ∈ [(⟨100, 0, 96⟩ : Head), ⟨4095, 8191, 197⟩], h.Ok 196) ∧ (34 ≤ 34 ∧ 34 ≤ 686 ∧ 686 ≤ 686) ∧ 2048 ≤ 32768 ∧
      [549, 10971].map (fun x => splicePeriod (some x)) = [34, 686] ∧ PeriodOk 549 ∧ PeriodOk 10971 := by
  decide +kernel

/-- A channel, its head 480 behind sample 580. -/
def channel (e : EnvState) (level : Rat) (c : EnvCommand) (f : Option Crossfade) : Channel :=
  ⟨e, level, if e = .closed then none else some ⟨100, 0, 480⟩, f, 8192, c⟩

theorem test_witness_EnvelopeSteps :
    (∀ e ∈ [EnvState.closed, .opening, .open, .closing], ∀ c ∈ [EnvCommand.open, .keep, .close],
      (channel e 1 c none).env = e ∧ (channel e 1 c none).command = c) ∧
      (511 / 512 + 1 / (256 * ((2 : Nat) : Rat)) : Rat) = 1 ∧ (1 / 512 - 1 / (256 * ((2 : Nat) : Rat)) : Rat) = 0 ∧
      (((channel .closed 0 .open none).act 580).env ≠ .closed ∧ ((channel .closed 0 .open none).act 580).active = some ⟨100, 0, 480⟩) ∧
      ((channel .open 1 .keep none).env ≠ .closed ∧ (channel .open 1 .keep none).active = some ⟨100, 0, 480⟩) := by decide +kernel
theorem test_witness_VoiceSignals :
    (channel .closed 0 .keep none).Ok 580 = true ∧ (channel .open 1 .keep none).Ok 580 = true ∧
      (channel .opening (1 / 2) .keep (some ⟨⟨579, 0, 1⟩, 0, 32⟩)).Ok 580 = true ∧
      (channel .closing (1 / 2) .keep (some ⟨⟨581, 0, 4095⟩, 511, 512⟩)).Ok 580 = true := by decide +kernel
theorem test_witness_MixedSamples : ∀ r ∈ [0, 64], ∀ m ∈ [EngineMode.run, .bypass],
    (⟨m, r, false, coeffs 0 0, Four.all (coeffs 0 0)⟩ : Mixer).ramp ≤ 64 := by decide +kernel
theorem test_witness_ClockEdgesAndGaps : (running 0).start.phase ≠ .pinHeld ∧ (running 0).port.clock = .present ∧ up.port.clock = .absent := by
  decide +kernel
theorem test_witness_MeasurementWindows :
    let windowed : State → Nat → Nat → Bool → State := fun s n q g =>
      { s with port := { s.port with windowCount := n, qualifying := q, windowGap := g } }
    (∀ n ∈ [470, 490], 470 ≤ (windowed up n 0 false).port.windowCount ∧ (windowed up n 0 false).port.windowCount ≤ 490) ∧
      (∀ n ∈ [0, 469, 491], ¬(470 ≤ (windowed up n 0 false).port.windowCount ∧ (windowed up n 0 false).port.windowCount ≤ 490)) ∧
      (windowed up 480 0 true).port.windowGap = true ∧ (∀ q ∈ [0, 1], (windowed up 480 q false).port.qualifying = q) ∧
      (up.engine.state = .stalled .clock ∧ up.start.phase = .up ∧ (windowed (running 0) 480 0 false).port.clock = .present) := by
  decide +kernel
theorem test_witness_ReceivedBytes : up.start.phase ≠ .pinHeld ∧ up.link.assembler = .hunt ∧ inLength.link.assembler = .length ∧
    (inBody 3 [1]).link.assembler = .body 3 [1] ∧ [1].length + 1 < 3 ∧ (inBody 2 [1]).link.assembler = .body 2 [1] ∧
    ([1] ++ [2] : List Byte) = 1 :: 2 :: [] := by decide +kernel
theorem test_witness_FramesAssemble : (List.replicate 248 (0 : Byte)).length ≤ 248 ∧ up.start.phase ≠ .pinHeld ∧
    up.link.assembler = .hunt ∧ up.link.fifo.length < 4 := by decide +kernel
theorem test_witness_ReceiveEventsOffer : (inBody 2 [1]).link.assembler = .body 2 [1] ∧ 2 ≤ [1].length + 1 ∧
    ([1] ++ [2] : List Byte) = 1 :: 2 :: [] ∧ inLength.link.assembler ≠ .hunt ∧ (1 : Byte).toNat < 2 ∧ 250 < (251 : Byte).toNat := by
  decide +kernel
theorem test_witness_LinkRepliesAndReset :
    (State.asked up (.fault .stop)).Takes (.fault .stop) [] ∧ Asks up 0x80 [] ∧ Asks up 0x7F [] ∧ 0x7F ∉ requestKinds ∧
      (0x80 ≤ (0x80 : Byte).toNat ∧ (0x7F : Byte).toNat < 0x80) ∧ Asks up 0x03 [] ∧
      { up with link := { up.link with replies := [⟨1, 1, none, []⟩] } }.link.replies = ⟨1, 1, none, []⟩ :: [] := by decide +kernel
theorem test_witness_EveryRequestAnsweredOnce :
    request? (.beat 1 [0]) = some (0x46, 1, [0]) ∧ Asks up 0x46 [0] ∧ legalLength 0x46 [0] = false ∧ Asks up 0x46 [] ∧
      legalLength 0x46 [] = true ∧ up.link.fifo = [] := by decide +kernel
theorem test_witness_no_rest_when_idle : ∀ rest, ¬up.Takes (.frame 0x46 1 []) rest := fun rest h => by
  have h1 : ([] : List FifoEntry) = .frame 0x46 1 [] :: rest := h.2.2.2
  cases h1
theorem test_witness_SetupSceneCueAndStoreReports : up.working.scene.Ok = true ∧ up.key.Ok ∧
    (∀ k ∈ ([0x12, 0x25, 0x33, 0x44, 0x53] : List Byte), Asks up k []) ∧
    (Asks (working up (opOf (.erase 2 (.pulse 1)) 1499990 0 false)) 0x53 [] ∧
      [9, 10].map (fun n => (opOf (.erase 2 (.pulse 1)) 1499990 0 false).counted n) = [9, 10]) := by
  decide +kernel
theorem test_witness_StatusMonitorAndNoticeReports : Asks up 0x01 [] ∧ up.port.lastWindowCount < 65536 ∧ Asks up 0x02 [] ∧
    Asks up 0x60 [] ∧ up.notices.attnLow = false ∧ Asks noticed 0x60 [] ∧ noticed.notices.attnLow = true := by decide +kernel
theorem test_witness_SlotReports :
    let s := rehearsal none .default
    (∀ p ∈ ([[7, 8], [8, 7], [7, 7], [2, 0]] : List (List Byte)), Asks s 0x50 p) ∧ s.overlay.mapped ≠ some 2 ∧
      s.store.busyAt 2 0 = false ∧ s.store.stateAt 2 2 = .blank ∧ s.store.stateAt 2 7 = .incomplete ∧
      (s.store.stateAt 2 0 = .valid ∧ s.store.recordAt 2 0 = some (sceneNamed 0x56)) ∧
      (working s (opOf (.erase 2 (.mark 0)) 0 0 false)).store.busyAt 2 7 = true ∧ 8 * 7 + 7 < 64 ∧
      (working s (opOf (.program 2 7 defaultScene .mark) 0 0 false)).store.busyAt 2 7 = true ∧
      (rehearsal (some 2) .default).overlay.mapped = some 2 ∧
      (∀ p ∈ ([[7], [8]] : List (List Byte)), Asks s 0x5B p) := by decide +kernel
theorem test_witness_SettingsStored :
    (∀ p ∈ ([[0], [1], [2]] : List (List Byte)), Asks up 0x04 p ∧ Asks up 0x24 p) ∧ Asks up 0x10 [0x10, 0x35] ∧
      (∀ a ∈ ([15, 16] : List Byte), Asks up 0x22 [a, 0xFF, 0xFF]) ∧ (∀ a ∈ ([11, 12] : List Byte), Asks up 0x23 [a, 0xFF, 0xFF, 16]) := by
  decide +kernel
theorem test_witness_TrackerSettingsStored : Asks up 0x11 [0x02, 0xBD, 0x05, 0x79, 0x80, 96, 96, 61, 251] := by decide +kernel
theorem test_witness_NoteRequests :
    let ten := held [48, 52, 55, 59, 60, 64, 67, 71, 72, 76] (.active 0 4)
    (∀ p ∈ ([[127, 1], [128, 1], [127, 2], [48, 0], [48, 1], [50, 1]] : List (List Byte)), Asks ten 0x20 p) ∧
      48 ∈ ten.key.notes ∧ 50 ∉ ten.key.notes ∧ ten.key.notes.length = 10 ∧ (held (List.range 9) .none).key.notes.length < 10 ∧
      ([60].erase 60 = [] ∧ [48, 60].erase 60 ≠ []) ∧ (held [60] (.active 9 1)).key.policy = .latch ∧
      (held [60] (.active 9 1)).key.context.chord? = some (9, 1) ∧ (held [60] .none).key.context = .none ∧
      { (held [60] (.latched 9 1)).key with policy := .clear }.policy = .clear := by decide +kernel
theorem test_witness_RecognitionChoosesTheChord :
    (held [57, 60] .none).key.notes ≠ [] ∧ (held [57, 60] .none).key.recognise = some (1, 9) ∧
      (held [60, 61, 62] .none).key.recognise = none := by decide +kernel
theorem test_witness_ClearingRequests : Asks up 0x21 [] ∧ (frm (queued [cue10, cue11 .queued] 3) 0x43 []).cues.Ok ∧
    Asks (queued [cue10, cue11 .queued] 3) 0x43 [] ∧ Asks (queued [] 0) 0x43 [] ∧ Asks up 0x45 [] := by decide +kernel
theorem test_witness_CheckedRecordsLieInRange : (List.replicate 58 (0xFF : Byte)).length = 58 ∧ parseScene (List.replicate 58 0xFF) = none ∧
    (parseScene (List.replicate 58 0)).isSome = true := by decide +kernel
theorem test_witness_RecordsRoundTrip : defaultScene.Ok = true ∧ (sceneNamed 0x7E).Ok = true := by decide +kernel
theorem test_witness_SceneLoads :
    let s := rehearsal none .default
    let m := rehearsal (some 2) .default
    (s.cues.Ok ∧ (queued [cue10] 3).cues.Ok) ∧ (∀ p ∈ ([[7, 7], [7, 8], [8, 0], [2, 1]] : List (List Byte)), Asks s 0x30 p) ∧
      (m.overlay.mapped = some 2 ∧ m.overlay.recordAt 7 = none ∧ m.overlay.recordAt 1 = some (sceneNamed 0x44)) ∧
      s.store.busyAt 2 7 = false ∧ s.store.stateAt 2 7 ≠ .valid ∧ s.store.recordAt 2 1 = some (sceneNamed 0x43) ∧
      (working s (opOf (.erase 2 (.mark 0)) 0 0 false)).store.busyAt 2 1 = true ∧
      Asks s 0x31 defaultScene.bytes ∧ parseScene defaultScene.bytes = some defaultScene ∧
      Asks s 0x31 (List.replicate 58 0xFF) ∧ parseScene (List.replicate 58 0xFF) = none := by decide +kernel
theorem test_witness_LiveEdits :
    (∀ id ∈ ([0x00, 0x01, 0x0D, 0x0E, 0x0F, 0x10, 0x17, 0x18] : List Byte), ∀ v ∈ ([3, 4] : List Byte), Asks up 0x32 [id, v, 0, 4]) ∧
      0 ≤ ((0 : Byte) ++ (4 : Byte)).toInt ∧
      [VoiceMode.off, .scale, .chord, .semitone, .drone][((0 : Byte) ++ (4 : Byte)).toInt.toNat]? = some .drone ∧ 4 < ((0 : Byte) ++ (5 : Byte)).toInt ∧
      ((0xFF : Byte) ++ (0xFF : Byte)).toInt < 0 := by decide +kernel
theorem test_witness_OverlayRequests :
    (∀ b ∈ ([7, 8] : List Byte), Asks up 0x58 [b]) ∧ { up.store with frozen := true }.frozen = true ∧ up.store.frozen = false ∧
      up.store.inFlight = false ∧ (working up (opOf (.erase 2 (.mark 0)) 0 0 false)).store.inFlight = true ∧ Asks up 0x59 [] ∧
      up.overlay.mapped = none ∧ (rehearsal (some 2) .default).overlay.mapped = some 2 ∧
      (∀ i ∈ ([7, 8] : List Byte), Asks up 0x5A (i :: defaultScene.bytes)) ∧ parseScene defaultScene.bytes = some defaultScene := by
  decide +kernel
/-- Sixteen cues. -/
def sixteen : State := queued (cue10 :: (List.range 15).map fun n => cueOf (20 + n) .phrase .atTrigger 0 .queued) 3

theorem test_witness_CuesEnqueued :
    (∀ f ∈ ([⟨255, 0, 7, 7, 2, 64, 1, 64, []⟩, ⟨0, 0, 2, 0, 0, 0, 0, 0, []⟩, ⟨10, 0, 2, 0, 0, 0, 0, 0, []⟩,
        ⟨9, 1, 0, 0, 1, 0, 0, 0, defaultScene.bytes⟩, ⟨9, 2, 0, 0, 0, 0, 0, 0, []⟩] : List EnqueueFields),
      let p := [f.tag, f.source, f.bank, f.slot, f.trigger, f.count, f.landing, f.deadline] ++ f.record
      (f.source = 0 → f.record.length = 0) ∧ (f.source = 1 → f.record.length = 58) ∧
        (f.source ≠ 0 → f.source ≠ 1 → f.record.length = 0 ∨ f.record.length = 58) ∧ Asks sixteen 0x40 p ∧ Asks up 0x40 p) ∧
      (sixteen.cues.queue.length = 16 ∧ up.cues.queue.length < 16) ∧
      (10 ∈ sixteen.cues.queue.map (·.tag) ∧ 9 ∉ sixteen.cues.queue.map (·.tag)) := by decide +kernel
theorem test_witness_CuesEnqueued_queues : sixteen.cues.Ok ∧ up.cues.Ok := by decide +kernel
theorem test_witness_CuesEnqueued_slots :
    let s := rehearsal none .default
    (s.store.busyAt 2 1 = false ∧ s.store.recordAt 2 1 = some (sceneNamed 0x43) ∧ s.store.stateAt 2 7 ≠ .valid) ∧
      (working s (opOf (.erase 2 (.mark 0)) 0 0 false)).store.busyAt 2 1 = true ∧
      (rehearsal (some 2) .default).overlay.recordAt 7 = none ∧ (rehearsal (some 2) .default).overlay.recordAt 1 = some (sceneNamed 0x44) := by
  decide +kernel

/-- The cue of one trigger and landing at the head. -/
def headed (t : CueTrigger) (l : CueLanding) (d : Nat) (st : CueState) (n : Nat) : State := queued [cueOf 5 t l d st, cue12 .queued] n

theorem test_witness_BeatsCount :
    (∀ s ∈ [queued [] 0, headed (.beats 1) .atTrigger 0 .armed 0, headed (.beats 64) .atPhrase 0 .armed 63, headed .phrase .atTrigger 64 .armed 63,
      headed .footswitch .atPhrase 1 .landing 0, headed .phrase .atTrigger 0 .armed 255], s.cues.Ok ∧ Asks s 0x46 []) := by decide +kernel
theorem test_witness_FireAndPhraseStart :
    (∀ s ∈ [queued [] 0, headed .footswitch .atPhrase 0 .landing 3, headed .phrase .atTrigger 0 .armed 3, headed .phrase .atPhrase 0 .armed 3,
      headed .footswitch .atTrigger 0 .armed 3],
      s.cues.Ok ∧ Asks s 0x41 [] ∧ s.tracker.phraseStartsAwaiting = 0 ∧
        (∀ n ∈ [1, 2], 0 < { s with tracker := { s.tracker with phraseStartsAwaiting := n } }.tracker.phraseStartsAwaiting)) := by
  decide +kernel
theorem test_witness_CuesCancelled :
    let s := queued [cue10, cue11 .queued, cue12 .queued] 3
    s.cues.Ok ∧ (∀ t ∈ ([0, 1, 10, 12] : List Byte), Asks s 0x42 [t]) ∧ (1 : Byte).toNat ∉ s.cues.queue.map (·.tag) ∧
      s.cues.queue = [] ++ cue10 :: [cue11 .queued, cue12 .queued] ∧ s.cues.queue = [cue10, cue11 .queued] ++ cue12 .queued :: [] := by
  decide +kernel
theorem test_witness_StoreRequests :
    let s := rehearsal none .default
    (∀ b ∈ ([7, 8] : List Byte), Asks s 0x51 (b :: b :: defaultScene.bytes) ∧ Asks s 0x52 [b]) ∧ Asks s 0x54 [] ∧
      defaultScene.bytes.length = 58 ∧ parseScene defaultScene.bytes = some defaultScene ∧ s.store.stateAt 2 0 ≠ .blank ∧
      s.store.stateAt 7 7 = .blank ∧ (s.store.latch = false ∧ s.store.frozen = false ∧ s.overlay.mapped = none ∧
        s.store.inFlight = false ∧ s.store.supplyHigh = true) ∧
      (working s (opOf (.erase 2 (.mark 0)) 0 0 false)).store.inFlight = true ∧ { s.store with latch := true }.latch = true ∧
      { s.store with supplyHigh := false }.supplyHigh = false ∧ (rehearsal (some 2) .default).overlay.mapped ≠ none := by decide +kernel
theorem test_witness_StorePulses :
    (∀ w ∈ [StoreWork.program 7 7 defaultScene .mark, .program 0 0 defaultScene (.write 27), .program 0 0 defaultScene (.write 28),
        .program 0 0 defaultScene .commit, .erase 7 (.mark 6), .erase 7 (.mark 7), .erase 7 (.prewrite 6 28), .erase 7 (.prewrite 6 29),
        .erase 7 (.prewrite 7 29), .erase 0 (.pulse 1), .erase 7 (.pulse 59), .erase 7 (.pulse 60)],
      ∀ n ∈ [11, 12], ∀ pulsing ∈ [false, true], let s := working up (opOf w 1489500 n pulsing)
        s.store.op = some (opOf w 1489500 n pulsing) ∧ (opOf w 1489500 n pulsing).status = .inFlight ∧
          (opOf w 1489500 n pulsing).elapsedMicros + 10500 ≤ 1500000) := by decide +kernel
theorem test_witness_StoreAbandonment :
    up.store.inFlight = false ∧
      (∀ w ∈ [StoreWork.erase 7 (.pulse 60), .program 0 0 defaultScene .commit], ∀ pulsing ∈ [false, true],
        (working up (opOf w 1499900 11 pulsing)).store.inFlight = true ∧ (opOf w 1499900 11 pulsing).counted 100 = 100 ∧
          1500000 < 1499900 + (opOf w 1499900 11 pulsing).counted 101 ∧ 1500000 < 1499900 + (120 - 0) ∧
          1500000 < 1499900 + (10500 - 0)) := by decide +kernel
theorem test_witness_NoticesAndAttention : (∀ g ∈ ([5, 6] : List Byte), Asks up 0x61 [g, 7]) ∧ Asks up 0x62 (List.replicate 11 0xFF) ∧
    noticed.notices.attnLow = true ∧ Source.clip ≠ Source.audioClock := by decide +kernel
theorem test_witness_CueQueueLawKept : let s := { queued [cue10, cue11 .queued] 3 with pending := [.phraseStart] }
    s.cues.Ok ∧ step s = .next { s with pending := [] } := ⟨by decide +kernel, rfl⟩
theorem test_witness_an_idle_step : ∀ s ∈ [State.reset, running 255, noticed], step s = .next s := by
  intro s hs
  rcases List.mem_cons.1 hs with rfl | hs
  · rfl
  · rcases List.mem_cons.1 hs with rfl | hs
    · rfl
    · cases List.mem_singleton.1 hs; rfl
theorem test_witness_KeyContextLawKept : (held [57, 60] (.active 9 1)).key.Ok := by decide +kernel
theorem test_witness_StoreLawsKept : (working up (opOf (.erase 7 (.pulse 60)) 1499000 0 false)).StoreOk := by decide +kernel
theorem test_witness_LinkBoundsKept : (frm up 0x46 []).LinkOk := by decide +kernel
theorem test_witness_SceneRecordsStayChecked : (rehearsal (some 2) (.overlay 2 1 false)).ScenesOk := by decide +kernel
theorem test_witness_AudioLawsKept : (running 255).AudioOk :=
  ⟨by decide +kernel, by decide +kernel, ⟨by decide +kernel, by decide +kernel, by decide +kernel, by decide +kernel⟩, by decide +kernel⟩
theorem test_witness_ClockFollowAndNoticeLawsKept : (running 255).ClockOk ∧ (rehearsal (some 2) (.overlay 2 1 false)).FollowOk ∧
    noticed.notices.Ok ∧ (running 255).working.origin.source.Ok = true :=
  ⟨by decide +kernel, by decide +kernel, by decide +kernel, by decide +kernel⟩

end Sys2Proof.Tests
end

section
/-! Proofs: the frame of every command. What a command may change is listed by `mayChange`; every other block keeps its value. -/

namespace Sys2Proof.Machine

/-- `t` has the blocks listed in `l` of its own, and every other block and the queue of commands from `s`. -/
def State.patch (s t : State) (l : List Block) : State :=
  { tracker := if .tracker ∈ l then t.tracker else s.tracker
    key := if .key ∈ l then t.key else s.key
    planner := if .planner ∈ l then t.planner else s.planner
    engine := if .engine ∈ l then t.engine else s.engine
    port := if .port ∈ l then t.port else s.port
    mixer := if .mixer ∈ l then t.mixer else s.mixer
    working := if .working ∈ l then t.working else s.working
    overlay := if .overlay ∈ l then t.overlay else s.overlay
    cues := if .cues ∈ l then t.cues else s.cues
    store := if .store ∈ l then t.store else s.store
    link := if .link ∈ l then t.link else s.link
    notices := if .notices ∈ l then t.notices else s.notices
    start := if .start ∈ l then t.start else s.start
    pending := s.pending }

/-- From `s` to `t` no block changes but those listed, and the queue of commands stays. -/
def State.ChangesOnly (l : List Block) (s t : State) : Prop := t.pending = s.pending ∧ ∀ b, b ∉ l → s.AgreesOn t b

theorem State.ChangesOnly.refl (l : List Block) (s : State) : s.ChangesOnly l s :=
  ⟨rfl, fun b _ => by cases b <;> rfl⟩

theorem State.ChangesOnly.trans {l : List Block} {s t u : State} (h1 : s.ChangesOnly l t) (h2 : t.ChangesOnly l u) :
    s.ChangesOnly l u :=
  ⟨h2.1.trans h1.1, fun b hb => by
    have e1 := h1.2 b hb
    have e2 := h2.2 b hb
    cases b <;> exact Eq.trans e2 e1⟩

/-- A state built from another by replacing blocks changes only those. -/
theorem State.changesOnly_of_patch {l : List Block} {s t : State} (h : t = s.patch t l) : s.ChangesOnly l t := by
  rw [h]
  exact ⟨rfl, fun b hb => by cases b <;> exact if_neg hb⟩

/-- A state reached by changing only some blocks is the first one with those blocks replaced. -/
theorem State.ChangesOnly.eq_patch {l : List Block} {s t : State} (h : s.ChangesOnly l t) : t = s.patch t l := by
  have field {α : Type} (b : Block) (x y : α) (hb : b ∉ l → x = y) : x = if b ∈ l then x else y := by
    split
    · rfl
    · next hn => exact hb hn
  exact State.eq_of_fields (field .tracker _ _ (h.2 .tracker)) (field .key _ _ (h.2 .key)) (field .planner _ _ (h.2 .planner))
    (field .engine _ _ (h.2 .engine)) (field .port _ _ (h.2 .port)) (field .mixer _ _ (h.2 .mixer))
    (field .working _ _ (h.2 .working)) (field .overlay _ _ (h.2 .overlay)) (field .cues _ _ (h.2 .cues))
    (field .store _ _ (h.2 .store)) (field .link _ _ (h.2 .link)) (field .notices _ _ (h.2 .notices))
    (field .start _ _ (h.2 .start)) h.1

theorem State.ChangesOnly.mono {l k : List Block} (hl : l ⊆ k) {s t : State} (h : s.ChangesOnly l t) : s.ChangesOnly k t :=
  ⟨h.1, fun b hb => h.2 b fun hm => hb (hl hm)⟩

/-- A dispatched request changes what its work changes, and the link. -/
theorem dispatch_changesOnly {l : List Block} (hl : .link ∈ l) {α : Type} {kind seq : Byte} {payload : List Byte}
    {parse : List Byte → Option α} {work : α → State → State × Reply} (s : State)
    (hwork : ∀ a u, State.ChangesOnly l u (work a u).1) : s.ChangesOnly l (dispatch kind seq payload parse work s) := by
  refine dispatch_keeps (P := s.ChangesOnly l) (fun u k hu => hu.trans ⟨rfl, fun b hb => ?_⟩)
    (fun a u hu => hu.trans (hwork a u)) (.refl l s)
  cases b
  case link => exact absurd hl hb
  all_goals rfl

/-- A dispatched request whose work is described by a frame changes what the frame lists, and the link. -/
theorem dispatch_changesOnly_of_frame (l : List Block) {α : Type} {kind seq : Byte} {payload : List Byte}
    {parse : List Byte → Option α} {work : α → State → State × Reply} (s : State)
    (hwork : ∀ a (u : State), (work a u).1 = u.patch (work a u).1 l) :
    s.ChangesOnly (l ++ [.link]) (dispatch kind seq payload parse work s) :=
  dispatch_changesOnly (by simp) s fun a u => (State.changesOnly_of_patch (hwork a u)).mono (by simp)

/-- A reading request changes the link alone. -/
theorem dispatchRead_changesOnly {α : Type} {kind seq : Byte} {payload : List Byte} {parse : List Byte → Option α}
    {report : α → State → Reply} (s : State) : s.ChangesOnly [.link] (dispatchRead kind seq payload parse report s) :=
  dispatch_changesOnly (by simp) s fun _ u => .refl _ u

/-- Raising sources under conditions changes the Notice Unit alone. -/
theorem State.raiseIf_changesOnly (s : State) (c : Bool) (src : Source) : s.ChangesOnly [.notices] (s.raiseIf c src) :=
  changesOnly_of_patch (by cases c <;> rfl)

/-- The work of a frame completion after its sample. -/
theorem State.completeFrame_takeSample_changesOnly (s : State) (x : Sample) :
    s.ChangesOnly [.tracker, .planner, .engine, .port, .mixer, .working, .notices] (s.takeSample x).completeFrame :=
  ((changesOnly_of_patch (l := [.tracker, .engine, .port, .mixer, .notices]) ((State.takeSample_frame s x).trans rfl)).mono
    (by simp)).trans
    ((changesOnly_of_patch (l := [.tracker, .planner, .engine, .mixer, .working, .notices])
      ((State.completeFrame_frame (s.takeSample x)).trans rfl)).mono (by simp))

theorem State.sampleEvent_changesOnly (s : State) (x : Sample) :
    s.ChangesOnly [.tracker, .planner, .engine, .port, .mixer, .working, .notices] (s.sampleEvent x) := by
  unfold State.sampleEvent
  split
  · exact State.completeFrame_takeSample_changesOnly s x
  · exact (changesOnly_of_patch (l := [.tracker, .engine, .port, .mixer, .notices])
      ((State.takeSample_frame s x).trans rfl)).mono (by simp)

theorem execMeasurementWindowEnd_changesOnly {s t : State} (h : execMeasurementWindowEnd s = .next t) :
    s.ChangesOnly [.tracker, .planner, .engine, .port, .mixer, .notices] t := by
  cases h
  split
  · exact .refl _ s
  dsimp only
  split
  · split <;> exact State.changesOnly_of_patch rfl
  split
  · exact State.changesOnly_of_patch rfl
  split
  · exact State.changesOnly_of_patch rfl
  split
  · exact State.changesOnly_of_patch rfl
  · exact (State.changesOnly_of_patch (l := [.port]) rfl).mono (by simp) |>.trans <|
      (State.changesOnly_of_patch (l := [.tracker, .planner, .engine, .port, .mixer])
        ((State.declarePresent_frame _).trans rfl)).mono (by simp)

theorem execSelfCheckEnd_changesOnly {ramFault storeUnreadable : Bool} {s t : State}
    (h : execSelfCheckEnd ramFault storeUnreadable s = .next t) :
    s.ChangesOnly [.tracker, .planner, .engine, .mixer, .store, .link, .notices, .start] t := by
  cases h
  split
  · have h1 : s.ChangesOnly [.tracker, .planner, .engine, .mixer, .store, .link, .notices, .start]
        (if storeUnreadable then s.storeUnreadable else s) := by
      split
      · exact State.changesOnly_of_patch rfl
      · exact .refl _ s
    have h2 := State.changesOnly_of_patch (l := [.tracker, .planner, .engine, .mixer])
      ((State.startEngine_frame (if storeUnreadable then s.storeUnreadable else s) ramFault).trans rfl)
    exact (h1.trans (h2.mono (by simp))).trans (State.changesOnly_of_patch rfl)
  · exact .refl _ s

/-- Every command leaves the queue of commands and every block `mayChange` does not list for it. -/
theorem exec_changesOnly {c : Instr} {s t : State} (h : exec c s = .next t) : s.ChangesOnly (mayChange c) t := by
  cases c with
  | powerOnReset _ | pinReset _ => cases h; exact State.changesOnly_of_patch rfl
  | softReset _ => cases h; split <;> [exact State.changesOnly_of_patch rfl; exact .refl _ s]
  | resetnRelease => cases h; split <;> [exact State.changesOnly_of_patch rfl; exact .refl _ s]
  | frameClockEdge => cases h; split <;> [exact .refl _ s; exact State.changesOnly_of_patch rfl]
  | clockGapTimeout =>
    cases h
    split
    · exact .refl _ s
    · dsimp only
      split <;> exact State.changesOnly_of_patch rfl
  | measurementWindowEnd => exact execMeasurementWindowEnd_changesOnly h
  | selfCheckEnd _ _ => exact execSelfCheckEnd_changesOnly h
  | sampleEvent x =>
    cases h
    split
    · exact State.sampleEvent_changesOnly s x
    · exact .refl _ s
  | frameCompletion x =>
    cases h
    split
    · exact State.completeFrame_takeSample_changesOnly s x
    · exact .refl _ s
  | phraseStart =>
    cases h
    split
    · exact (State.changesOnly_of_patch (l := [.tracker]) rfl).mono (by simp [mayChange]) |>.trans <|
        (State.changesOnly_of_patch (l := [.working, .cues, .notices])
          ((State.phraseStartAtHead_frame _).trans rfl)).mono (by simp [mayChange])
    · exact .refl _ s
  | receivedByte b stopError => cases h; exact State.changesOnly_of_patch ((State.applyByte_frame _ _).trans rfl)
  | frameReceived b =>
    cases h
    split
    · exact State.changesOnly_of_patch ((State.applyByte_frame _ _).trans rfl)
    · exact .refl _ s
  | receiveFault b stopError =>
    cases h
    split
    · exact State.changesOnly_of_patch ((State.applyByte_frame _ _).trans rfl)
    · exact .refl _ s
  | receiveGapTimeout =>
    cases h
    split
    · exact .refl _ s
    · exact State.changesOnly_of_patch ((State.applyByte_frame _ _).trans rfl)
  | badFrame cause =>
    cases h
    split
    · next h1 => obtain ⟨-, rfl⟩ := State.take_eq_some.mp h1; exact State.changesOnly_of_patch rfl
    · exact .refl _ s
  | unknownKind kind seq payload =>
    cases h
    split
    · exact .refl _ s
    · split
      · next h1 => obtain ⟨-, rfl⟩ := State.take_eq_some.mp h1; exact State.changesOnly_of_patch rfl
      · exact .refl _ s
  | transmitComplete => cases h; exact State.changesOnly_of_patch rfl
  | storeSupplyRestored => cases h; exact State.changesOnly_of_patch rfl
  | programmingVoltageReady _ => exact State.changesOnly_of_patch ((execProgrammingVoltageReady_frame h).trans rfl)
  | storePulseVerify _ => exact State.changesOnly_of_patch ((execStorePulseVerify_frame h).trans rfl)
  | erasePulseVerify _ => exact State.changesOnly_of_patch ((execErasePulseVerify_frame h).trans rfl)
  | timerExpiry => exact State.changesOnly_of_patch ((execTimerExpiry_frame h).trans rfl)
  | supplyLoss _ => exact State.changesOnly_of_patch ((execSupplyLoss_frame h).trans rfl)
  | getStatus _ _ | monitor _ _ | readSetup _ _ | readContext _ _ | readWorkingScene _ _ | listCues _ _ | readSlot _ _
  | overlayRead _ _ | readNotices _ _ => cases h; exact dispatchRead_changesOnly s
  | reset _ _ => cases h; exact dispatch_changesOnly (by simp [mayChange]) s fun _ _ => State.changesOnly_of_patch rfl
  | setEngineMode _ _ => cases h; exact dispatch_changesOnly_of_frame [.mixer] s fun a u => (engineModeWork_frame a u).trans rfl
  | setTuning _ _ => cases h; exact dispatch_changesOnly_of_frame [.tracker] s fun a u => (tuningWork_frame a u).trans rfl
  | setTracker _ _ => cases h; exact dispatch_changesOnly_of_frame [.tracker] s fun a u => (trackerWork_frame a u).trans rfl
  | note _ _ => cases h; exact dispatch_changesOnly_of_frame [.key, .notices] s fun a u => (noteWork_frame a u).trans rfl
  | notesClear _ _ => cases h; exact dispatch_changesOnly_of_frame [.key, .notices] s fun a u => (notesClearWork_frame a u).trans rfl
  | setScale _ _ => cases h; exact dispatch_changesOnly_of_frame [.key] s fun a u => (setScaleWork_frame a u).trans rfl
  | setTemplate _ _ => cases h; exact dispatch_changesOnly_of_frame [.key] s fun a u => (setTemplateWork_frame a u).trans rfl
  | setChordPolicy _ _ => cases h; exact dispatch_changesOnly_of_frame [.key] s fun a u => (chordPolicyWork_frame a u).trans rfl
  | loadScene _ _ => cases h; exact dispatch_changesOnly_of_frame [.working, .cues, .notices] s fun a u => (loadSceneWork_frame a u).trans rfl
  | loadInlineScene _ _ => cases h; exact dispatch_changesOnly_of_frame [.working, .cues, .notices] s fun a u => (loadInlineWork_frame a u).trans rfl
  | editWorkingScene _ _ => cases h; exact dispatch_changesOnly_of_frame [.working] s fun a u => (editWork_frame a u).trans rfl
  | enqueueCue _ _ => cases h; exact dispatch_changesOnly_of_frame [.cues, .notices] s fun a u => (enqueueWork_frame a u).trans rfl
  | fire _ _ => cases h; exact dispatch_changesOnly_of_frame [.working, .cues, .notices] s fun a u => (fireWork_frame a u).trans rfl
  | cancelCue _ _ => cases h; exact dispatch_changesOnly_of_frame [.cues, .notices] s fun a u => (cancelWork_frame a u).trans rfl
  | clearCues _ _ => cases h; exact dispatch_changesOnly_of_frame [.cues, .notices] s fun a u => (clearCuesWork_frame a u).trans rfl
  | readCueResults _ _ => cases h; exact dispatch_changesOnly_of_frame [.cues] s fun a u => (readResultsWork_frame a u).trans rfl
  | beat _ _ => cases h; exact dispatch_changesOnly_of_frame [.working, .cues, .notices] s fun a u => (beatWork_frame a u).trans rfl
  | programSlot _ _ => cases h; exact dispatch_changesOnly_of_frame [.store] s fun a u => (programWork_frame a u).trans rfl
  | eraseBank _ _ => cases h; exact dispatch_changesOnly_of_frame [.store] s fun a u => (eraseWork_frame a u).trans rfl
  | freezeStore _ _ => cases h; exact dispatch_changesOnly_of_frame [.store] s fun a u => (freezeWork_frame a u).trans rfl
  | overlayOn _ _ => cases h; exact dispatch_changesOnly_of_frame [.overlay, .working] s fun a u => (overlayOnWork_frame a u).trans rfl
  | overlayOff _ _ => cases h; exact dispatch_changesOnly_of_frame [.overlay, .working] s fun a u => (overlayOffWork_frame a u).trans rfl
  | overlayWrite _ _ => cases h; exact dispatch_changesOnly_of_frame [.overlay, .working] s fun a u => (overlayWriteWork_frame a u).trans rfl
  | clearNotices _ _ => cases h; exact dispatch_changesOnly_of_frame [.notices] s fun a u => (clearNoticesWork_frame a u).trans rfl
  | configureNotices _ _ => cases h; exact dispatch_changesOnly_of_frame [.notices] s fun a u => (configureWork_frame a u).trans rfl
  | storeStatus _ _ =>
    cases h; exact dispatch_changesOnly_of_frame [.store, .notices] s fun _ u => (State.passToStatus_frame u _).trans rfl

end Sys2Proof.Machine
end

section
/-! Proofs: every scene record the part holds stays within the ranges of a checked record (R115 to R117, R124). -/

namespace Sys2Proof.Machine

/-! ### Records in range -/

theorem VoiceRule.ok_iff {v : VoiceRule} :
    v.Ok = true ↔ ((amountRange v.mode).1 ≤ v.amount ∧ v.amount ≤ (amountRange v.mode).2) ∧
      (24 ≤ v.low ∧ v.low + 12 ≤ v.high ∧ v.high ≤ 108) ∧ (-50 ≤ v.detune ∧ v.detune ≤ 50) ∧
      (-120 ≤ v.gain ∧ v.gain ≤ 12) ∧ (-50 ≤ v.pan ∧ v.pan ≤ 50) := by
  simp [VoiceRule.Ok, within, and_assoc]

/-- The characters of a record's name (R115, R117). -/
def NameOk (name : List Byte) : Prop := name.length = 12 ∧ ∀ b ∈ name, 0x20 ≤ b.toNat ∧ b.toNat ≤ 0x7E

theorem Scene.ok_iff {sc : Scene} :
    sc.Ok = true ↔ NameOk sc.name ∧ sc.tonic ≤ 11 ∧ sc.scaleIndex ≤ 15 ∧ sc.correction ≤ 100 ∧ sc.hysteresis ≤ 40 ∧
      sc.glide ≤ 1200 ∧ (32 ≤ sc.crossfade ∧ sc.crossfade ≤ 512) ∧ (-120 ≤ sc.dryGain ∧ sc.dryGain ≤ 12) ∧
      (-50 ≤ sc.dryPan ∧ sc.dryPan ≤ 50) ∧ (1 ≤ sc.attack ∧ sc.attack ≤ 32) ∧ (1 ≤ sc.release ∧ sc.release ≤ 64) ∧
      sc.voices.All (fun v => v.Ok = true) := by
  simp only [Scene.Ok, NameOk, within, Four.toList, Bool.and_eq_true, decide_eq_true_eq, List.all_eq_true, List.forall_mem_cons,
    List.not_mem_nil, false_imp_iff, implies_true, and_true, and_assoc, Four.All, Nat.one_le_cast, Nat.cast_le_ofNat, Nat.ofNat_le_cast]

theorem amountRange_le (m : VoiceMode) : (amountRange m).1 ≤ (amountRange m).2 := by
  cases m <;> decide

/-- A clamped amount lies in its mode's range (R116). -/
theorem clampAmount_mem (m : VoiceMode) (a : Int) :
    (amountRange m).1 ≤ clampAmount m a ∧ clampAmount m a ≤ (amountRange m).2 :=
  ⟨le_clampInt (amountRange_le m) a, clampInt_le (amountRange_le m) a⟩

theorem clampInt_mem {lo hi : Int} (h : lo ≤ hi) (x : Int) : lo ≤ clampInt lo hi x ∧ clampInt lo hi x ≤ hi :=
  ⟨le_clampInt h x, clampInt_le h x⟩

theorem clampNat_mem {lo hi : Nat} (h : lo ≤ hi) (x : Nat) : lo ≤ clampNat lo hi x ∧ clampNat lo hi x ≤ hi :=
  ⟨le_clampNat h x, clampNat_le h x⟩

/-- The repair leaves a range of at least an octave within 24..108 (R57). -/
theorem repairRange_mem (low high : Int) :
    24 ≤ (repairRange low high).1 ∧ (repairRange low high).1 + 12 ≤ (repairRange low high).2 ∧
      (repairRange low high).2 ≤ 108 := by
  have hl := clampInt_mem (by decide : (24 : Int) ≤ 108) low
  have hh := clampInt_mem (by decide : (24 : Int) ≤ 108) high
  simp only [repairRange]
  omega

theorem parseVoice_ok {p : List Byte} {i : Nat} {v : VoiceRule} (h : parseVoice p i = some v) : v.Ok = true := by
  unfold parseVoice at h
  split at h
  · next m pol _ _ =>
    cases h
    exact VoiceRule.ok_iff.mpr ⟨clampAmount_mem m _, repairRange_mem _ _, clampInt_mem (by decide) _,
      clampInt_mem (by decide) _, clampInt_mem (by decide) _⟩
  · cases h

theorem parseVoices_ok {p : List Byte} {vs : Four VoiceRule} (h : parseVoices p = some vs) :
    vs.All (fun v => v.Ok = true) := by
  unfold parseVoices at h
  split at h
  · next h0 h1 h2 h3 =>
    cases h
    exact ⟨parseVoice_ok h0, parseVoice_ok h1, parseVoice_ok h2, parseVoice_ok h3⟩
  · cases h

theorem nameByte_mem (b : Byte) : 0x20 ≤ (nameByte b).toNat ∧ (nameByte b).toNat ≤ 0x7E := by
  unfold nameByte
  split
  · assumption
  · decide

/-- A record that passes the check lies in range (R117). -/
theorem parseScene_ok {p : List Byte} {sc : Scene} (hp : 12 ≤ p.length) (h : parseScene p = some sc) : sc.Ok = true := by
  unfold parseScene at h
  split at h
  · next hv =>
    split at h
    · cases h
    · cases h
      refine Scene.ok_iff.mpr ⟨⟨by simpa using hp, fun b hb => ?_⟩, clampNat_le (lo := 0) (by decide) _, clampNat_le (lo := 0) (by decide) _,
        clampNat_le (lo := 0) (by decide) _, clampNat_le (lo := 0) (by decide) _, clampNat_le (lo := 0) (by decide) _,
        clampNat_mem (by decide) _, clampInt_mem (by decide) _, clampInt_mem (by decide) _, clampNat_mem (by decide) _,
        clampNat_mem (by decide) _,
        parseVoices_ok hv⟩
      obtain ⟨a, -, rfl⟩ := List.mem_map.mp hb
      exact nameByte_mem a
  · cases h

/-! ### The live edit -/

/-- A numeric edit stores a value of the range (R124). -/
theorem editNumber_scene {lo hi v : Int} {store : Int → Scene} {e : Edited} (hlh : lo ≤ hi)
    (h : editNumber lo hi v store = some e) : ∃ x, lo ≤ x ∧ x ≤ hi ∧ e.scene = store x := by
  cases h
  exact ⟨_, le_clampInt hlh v, clampInt_le hlh v, rfl⟩

theorem toNat_mem {x : Int} {lo hi : Nat} (hlo : (lo : Int) ≤ x) (hhi : x ≤ hi) : lo ≤ x.toNat ∧ x.toNat ≤ hi := by
  omega

/-- A two-valued edit stores one of its values (R124). -/
theorem editFlag_scene {v : Int} {store : Bool → Scene} {e : Edited} (h : editFlag v store = some e) :
    ∃ b, e.scene = store b := by
  unfold editFlag at h
  split at h
  · cases h; exact ⟨_, rfl⟩
  · split at h
    · cases h; exact ⟨_, rfl⟩
    · cases h

theorem editSceneField_ok {sc : Scene} {id : Nat} {v : Int} {e : Edited} (hs : sc.Ok = true)
    (h : editSceneField sc id v = some e) : e.scene.Ok = true := by
  obtain ⟨h1, h2, h3, h4, h5, h6, h7, h8, h9, h10, h11, h12⟩ := Scene.ok_iff.mp hs
  have number {lo hi : Int} {store : Int → Scene} (h : editNumber lo hi v store = some e) (hlh : lo ≤ hi)
      (hst : ∀ x, lo ≤ x → x ≤ hi → (store x).Ok = true) : e.scene.Ok = true := by
    obtain ⟨x, hlo, hhi, he⟩ := editNumber_scene hlh h
    exact he ▸ hst x hlo hhi
  have flag {store : Bool → Scene} (h : editFlag v store = some e) (hst : ∀ b, (store b).Ok = true) : e.scene.Ok = true := by
    obtain ⟨b, he⟩ := editFlag_scene h
    exact he ▸ hst b
  unfold editSceneField at h
  split at h
  · exact number h (by decide) fun x hlo hhi => Scene.ok_iff.mpr ⟨h1, (toNat_mem (lo := 0) hlo hhi).2, h3, h4, h5, h6, h7, h8, h9, h10, h11, h12⟩
  · exact number h (by decide) fun x hlo hhi => Scene.ok_iff.mpr ⟨h1, h2, (toNat_mem (lo := 0) hlo hhi).2, h4, h5, h6, h7, h8, h9, h10, h11, h12⟩
  · exact flag h fun b => Scene.ok_iff.mpr ⟨h1, h2, h3, h4, h5, h6, h7, h8, h9, h10, h11, h12⟩
  · exact number h (by decide) fun x hlo hhi => Scene.ok_iff.mpr ⟨h1, h2, h3, (toNat_mem (lo := 0) hlo hhi).2, h5, h6, h7, h8, h9, h10, h11, h12⟩
  · exact number h (by decide) fun x hlo hhi => Scene.ok_iff.mpr ⟨h1, h2, h3, h4, (toNat_mem (lo := 0) hlo hhi).2, h6, h7, h8, h9, h10, h11, h12⟩
  · exact number h (by decide) fun x hlo hhi => Scene.ok_iff.mpr ⟨h1, h2, h3, h4, h5, (toNat_mem (lo := 0) hlo hhi).2, h7, h8, h9, h10, h11, h12⟩
  · exact number h (by decide) fun x hlo hhi => Scene.ok_iff.mpr ⟨h1, h2, h3, h4, h5, h6, toNat_mem hlo hhi, h8, h9, h10, h11, h12⟩
  · exact flag h fun b => Scene.ok_iff.mpr ⟨h1, h2, h3, h4, h5, h6, h7, h8, h9, h10, h11, h12⟩
  · exact flag h fun b => Scene.ok_iff.mpr ⟨h1, h2, h3, h4, h5, h6, h7, h8, h9, h10, h11, h12⟩
  · exact number h (by decide) fun x hlo hhi => Scene.ok_iff.mpr ⟨h1, h2, h3, h4, h5, h6, h7, ⟨hlo, hhi⟩, h9, h10, h11, h12⟩
  · exact number h (by decide) fun x hlo hhi => Scene.ok_iff.mpr ⟨h1, h2, h3, h4, h5, h6, h7, h8, ⟨hlo, hhi⟩, h10, h11, h12⟩
  · exact number h (by decide) fun x hlo hhi => Scene.ok_iff.mpr ⟨h1, h2, h3, h4, h5, h6, h7, h8, h9, toNat_mem hlo hhi, h11, h12⟩
  · exact number h (by decide) fun x hlo hhi => Scene.ok_iff.mpr ⟨h1, h2, h3, h4, h5, h6, h7, h8, h9, h10, toNat_mem hlo hhi, h12⟩
  · cases h

theorem editVoiceField_ok {r : VoiceRule} {id : Nat} {v : Int} {e : EditedVoice} (hr : r.Ok = true)
    (h : editVoiceField r id v = some e) : e.rule.Ok = true := by
  obtain ⟨h1, h2, h3, h4, h5⟩ := VoiceRule.ok_iff.mp hr
  unfold editVoiceField at h
  split at h
  · split at h
    · cases h
    · obtain ⟨m, -, rfl⟩ := Option.map_eq_some_iff.mp h
      exact VoiceRule.ok_iff.mpr ⟨clampAmount_mem m _, h2, h3, h4, h5⟩
  · cases h
    exact VoiceRule.ok_iff.mpr ⟨clampAmount_mem _ _, h2, h3, h4, h5⟩
  · cases h
    exact VoiceRule.ok_iff.mpr ⟨h1, repairRange_mem _ _, h3, h4, h5⟩
  · cases h
    exact VoiceRule.ok_iff.mpr ⟨h1, repairRange_mem _ _, h3, h4, h5⟩
  · cases h
    exact VoiceRule.ok_iff.mpr ⟨h1, h2, clampInt_mem (by decide) _, h4, h5⟩
  · cases h
    exact VoiceRule.ok_iff.mpr ⟨h1, h2, h3, clampInt_mem (by decide) _, h5⟩
  · cases h
    exact VoiceRule.ok_iff.mpr ⟨h1, h2, h3, h4, clampInt_mem (by decide) _⟩
  · repeat' split at h
    all_goals cases h
    all_goals exact VoiceRule.ok_iff.mpr ⟨h1, h2, h3, h4, h5⟩
  · cases h

theorem Four.All.get {α : Type} {p : α → Prop} {f : Four α} (h : f.All p) (i : Nat) : p (f.get i) := by
  obtain ⟨h0, h1, h2, h3⟩ := h
  unfold Four.get
  split <;> assumption

theorem Four.All.set {α : Type} {p : α → Prop} {f : Four α} (h : f.All p) (i : Nat) {x : α} (hx : p x) : (f.set i x).All p := by
  obtain ⟨h0, h1, h2, h3⟩ := h
  unfold Four.set
  split <;> exact ⟨by assumption, by assumption, by assumption, by assumption⟩

/-- A live edit leaves a record in range (R124, R125). -/
theorem editScene_ok {sc : Scene} {id voice : Nat} {v : Int} {e : Edited} (hs : sc.Ok = true)
    (h : editScene sc id voice v = some e) : e.scene.Ok = true := by
  unfold editScene at h
  split at h
  · split at h
    · cases h
    · obtain ⟨ev, hev, rfl⟩ := Option.map_eq_some_iff.mp h
      obtain ⟨h1, h2, h3, h4, h5, h6, h7, h8, h9, h10, h11, h12⟩ := Scene.ok_iff.mp hs
      exact Scene.ok_iff.mpr
        ⟨h1, h2, h3, h4, h5, h6, h7, h8, h9, h10, h11, Four.All.set h12 _ (editVoiceField_ok (Four.All.get h12 _) hev)⟩
  · exact editSceneField_ok hs h

/-- The default scene lies in range (R118). -/
theorem defaultScene_ok : defaultScene.Ok = true := by decide

end Sys2Proof.Machine
end

section
/-! Proofs: the scene records of each block, and that every command keeps them in range (R117, R119). -/

namespace Sys2Proof.Machine

/-! ### The records of each block -/

/-- The Working Scene and its follow record lie in range. -/
abbrev Working.ScenesOk (w : Working) : Prop := w.scene.Ok ∧ ∀ f ∈ w.follow, f.scene.Ok

/-- The overlay's records lie in range. -/
abbrev Overlay.ScenesOk (o : Overlay) : Prop := ∀ x ∈ o.ram.toList, ∀ r ∈ x, r.Ok

/-- The cues' records lie in range. -/
abbrev CueQueue.ScenesOk (q : CueQueue) : Prop := ∀ c ∈ q.queue, c.scene.Ok

/-- The slots' records and the record a program writes lie in range. -/
abbrev SceneStore.ScenesOk (st : SceneStore) : Prop :=
  (∀ x ∈ st.array.toList, ∀ r ∈ x.record?, r.Ok) ∧ ∀ o ∈ st.op, ∀ r ∈ o.work.record?, r.Ok

theorem State.scenesOk_iff {s : State} :
    s.ScenesOk ↔ s.working.ScenesOk ∧ s.overlay.ScenesOk ∧ s.cues.ScenesOk ∧ s.store.ScenesOk := by
  constructor
  · rintro ⟨h1, h2, h3, h4, h5, h6⟩
    exact ⟨⟨h1, h2⟩, h3, h4, h5, h6⟩
  · rintro ⟨⟨h1, h2⟩, h3, h4, h5, h6⟩
    exact ⟨h1, h2, h3, h4, h5, h6⟩

theorem Overlay.recordAt_ok {o : Overlay} (ho : o.ScenesOk) {i : Nat} {r : Scene} (h : o.recordAt i = some r) :
    r.Ok = true := by
  unfold Overlay.recordAt at h
  obtain ⟨x, hx, hr⟩ : ∃ x, o.ram[i]? = some x ∧ x = some r := by
    cases hx : o.ram[i]? with
    | none => simp [hx] at h
    | some x => exact ⟨x, rfl, by simpa [hx] using h⟩
  exact ho x (by simpa using Vector.mem_of_getElem? hx) r hr

theorem SceneStore.recordAt_ok {st : SceneStore} (hst : st.ScenesOk) {b i : Nat} {r : Scene} (h : st.recordAt b i = some r) :
    r.Ok = true := by
  unfold SceneStore.recordAt at h
  split at h
  · split at h
    · next r' hr =>
      cases h
      cases hx : st.array[slotIndex b i]? with
      | none => simp [hx] at hr
      | some x =>
        rw [hx, Option.getD_some] at hr
        exact hst.1 x (by simpa using Vector.mem_of_getElem? hx) r (by simp [hr, Slot.record?])
    · cases h
  · cases h

/-- The records a LOAD SCENE or an ENQUEUE CUE can find lie in range (R121, R140). -/
theorem State.readSlot_ok {s : State} (hs : s.ScenesOk) {b i : Nat} {r : Scene}
    (h : s.readSlot b i = .overlay r ∨ s.readSlot b i = .store r) : r.Ok = true := by
  obtain ⟨-, ho, -, hst⟩ := State.scenesOk_iff.mp hs
  unfold State.readSlot at h
  split at h
  · split at h <;> simp at h
    next hr => exact Overlay.recordAt_ok ho (h ▸ hr)
  · split at h
    · simp at h
    · split at h <;> simp at h
      next hr => exact SceneStore.recordAt_ok hst (h ▸ hr)

theorem Overlay.setRam_ok {o : Overlay} (ho : o.ScenesOk) {i : Nat} {r : Scene} (hr : r.Ok = true) :
    Overlay.ScenesOk { o with ram := o.ram.setIfInBounds i (some r) } := by
  intro x hx r' hr'
  rw [Vector.toList_setIfInBounds] at hx
  rcases List.mem_or_eq_of_mem_set hx with h | rfl
  · exact ho x h r' hr'
  · cases hr'
    exact hr

theorem SceneStore.setSlot_ok {st : SceneStore} (hst : st.ScenesOk) {b i : Nat} {x : Slot} (hx : ∀ r ∈ x.record?, r.Ok = true) :
    (st.setSlot b i x).ScenesOk := by
  refine ⟨fun y hy r hr => ?_, hst.2⟩
  rw [SceneStore.setSlot, Vector.toList_setIfInBounds] at hy
  rcases List.mem_or_eq_of_mem_set hy with h | rfl
  · exact hst.1 y h r hr
  · exact hx r hr

theorem SceneStore.blankBank_ok {st : SceneStore} (hst : st.ScenesOk) (b : Nat) : (st.blankBank b).ScenesOk := by
  unfold SceneStore.blankBank
  refine List.foldlRecOn (motive := SceneStore.ScenesOk) _ _ hst fun acc h i _ => ?_
  exact SceneStore.setSlot_ok h (by simp [Slot.record?])

/-! ### The Cue Queue's operations -/

theorem State.removeAll_scenesOk {s : State} (hs : s.ScenesOk) (o : CueOutcome) : (s.removeAll o).ScenesOk := by
  obtain ⟨hw, ho, -, hst⟩ := State.scenesOk_iff.mp hs
  exact State.scenesOk_iff.mpr ⟨by simpa using hw, by simpa using ho, by rw [State.removeAll_cues]; exact List.forall_mem_nil _, by simpa using hst⟩

theorem CueQueue.armHead_scenesOk {q : CueQueue} {rest : List Cue} (h : ∀ c ∈ rest, c.scene.Ok = true) :
    (q.armHead rest).ScenesOk := by
  cases rest with
  | nil => exact List.forall_mem_nil _
  | cons c cs => exact List.forall_mem_cons.mpr (List.forall_mem_cons.mp h)

theorem State.landHead_scenesOk {s : State} (hs : s.ScenesOk) {c : Cue} {rest : List Cue} {how : How}
    (hq : s.cues.queue = c :: rest) : (s.landHead c rest how).ScenesOk := by
  obtain ⟨-, ho, hc, hst⟩ := State.scenesOk_iff.mp hs
  simp only [CueQueue.ScenesOk, hq, List.forall_mem_cons] at hc
  refine State.scenesOk_iff.mpr ⟨?_, by simpa using ho, ?_, by simpa using hst⟩
  · rw [State.landHead_working]
    exact ⟨hc.1, by simp⟩
  · rw [State.landHead_cues]
    exact CueQueue.armHead_scenesOk hc.2

theorem State.triggerHead_scenesOk {s : State} (hs : s.ScenesOk) {c : Cue} {rest : List Cue} (hq : s.cues.queue = c :: rest) :
    (s.triggerHead c rest).1.ScenesOk := by
  unfold State.triggerHead
  split
  · exact State.landHead_scenesOk hs hq
  · obtain ⟨hw, ho, hc, hst⟩ := State.scenesOk_iff.mp hs
    simp only [CueQueue.ScenesOk, hq, List.forall_mem_cons] at hc
    exact State.scenesOk_iff.mpr ⟨hw, ho, List.forall_mem_cons.mpr hc, hst⟩

theorem State.phraseStartAtHead_scenesOk {s : State} (hs : s.ScenesOk) : s.phraseStartAtHead.ScenesOk := by
  unfold State.phraseStartAtHead
  split
  · exact hs
  · next hq =>
    split
    · exact State.landHead_scenesOk hs hq
    · split
      · exact State.triggerHead_scenesOk hs hq
      · exact hs

theorem CueQueue.withoutTag_scenesOk {q : CueQueue} (h : q.ScenesOk) (tag : Nat) : (q.withoutTag tag).ScenesOk := by
  unfold CueQueue.withoutTag
  split
  · exact h
  · next c rest hq =>
    simp only [CueQueue.ScenesOk, hq, List.forall_mem_cons] at h
    split
    · exact CueQueue.armHead_scenesOk h.2
    · exact List.forall_mem_cons.mpr ⟨h.1, fun d hd => h.2 d (List.mem_of_mem_eraseP hd)⟩

theorem CueQueue.enter_scenesOk {q : CueQueue} (h : q.ScenesOk) {c : Cue} (hc : c.scene.Ok = true) : (q.enter c).ScenesOk := by
  unfold CueQueue.enter
  split
  · exact List.forall_mem_singleton.mpr hc
  · intro d hd
    rcases List.mem_append.mp hd with hd | hd
    · exact h d hd
    · rw [List.mem_singleton.mp hd]
      exact hc

/-! ### The requests' work -/

theorem enqueuePayload_record {p : List Byte} {f : EnqueueFields} (h : enqueuePayload p = some f) (hsrc : f.source = 1) :
    f.record.length = 58 := by
  unfold enqueuePayload at h
  split at h
  · split at h
    · next hl =>
      cases h
      simp_all
    · cases h
  · cases h

/-- The source of an ENQUEUE CUE that passed its check holds a record in range, or names a slot. -/
theorem checkEnqueue_inline_ok {f : EnqueueFields} {e : Enqueue} (hf : f.source = 1 → f.record.length = 58)
    (h : checkEnqueue f = some e) {sc : Scene} (hsc : e.source = .inline sc) : sc.Ok = true := by
  unfold checkEnqueue at h
  split at h
  · cases h
  · split at h
    · next src _ _ hsrc =>
      cases h
      unfold enqueueSource at hsrc
      split at hsrc
      · split at hsrc
        · cases hsrc
        · cases hsrc; cases hsc
      · split at hsrc
        · next h1 =>
          obtain ⟨sc', hp, rfl⟩ := Option.map_eq_some_iff.mp hsrc
          cases hsc
          exact parseScene_ok (by rw [hf h1]; decide) hp
        · cases hsrc
    · cases h

theorem State.enqueueScene_ok {s : State} (hs : s.ScenesOk) {src : EnqueueSource} {sc : Scene} {from_ : CueSource}
    (hsrc : ∀ sc, src = .inline sc → sc.Ok = true) (h : s.enqueueScene src = .ok (sc, from_)) : sc.Ok = true := by
  unfold State.enqueueScene at h
  split at h
  · cases h
    exact hsrc _ rfl
  · split at h <;> cases h
    · next hr => exact State.readSlot_ok hs (.inl hr)
    · next hr => exact State.readSlot_ok hs (.inr hr)

theorem enqueueWork_scenesOk {s : State} (hs : s.ScenesOk) {f : EnqueueFields} (hf : f.source = 1 → f.record.length = 58) :
    (enqueueWork f s).1.ScenesOk := by
  unfold enqueueWork
  split
  · exact hs
  · next e he =>
    split
    · exact State.removeAll_scenesOk hs _
    · split
      · exact hs
      · split
        · exact hs
        · next hsc =>
          obtain ⟨hw, ho, hc, hst⟩ := State.scenesOk_iff.mp hs
          exact State.scenesOk_iff.mpr ⟨hw, ho, CueQueue.enter_scenesOk hc
            (State.enqueueScene_ok hs (fun _ => checkEnqueue_inline_ok hf he) hsc), hst⟩

theorem beatWork_scenesOk {s : State} (hs : s.ScenesOk) (a : Unit) : (beatWork a s).1.ScenesOk := by
  unfold beatWork
  split
  · exact hs
  · next hq =>
    have hs1 : State.ScenesOk { s with cues := { s.cues with counter := raiseCounter s.cues.counter } } := hs
    dsimp only
    split
    · exact State.landHead_scenesOk hs1 hq
    · split
      · exact State.triggerHead_scenesOk hs1 hq
      · exact hs1

theorem fireWork_scenesOk {s : State} (hs : s.ScenesOk) (a : Unit) : (fireWork a s).1.ScenesOk := by
  unfold fireWork
  split
  · exact hs
  · next hq =>
    dsimp only
    split
    · exact State.landHead_scenesOk hs hq
    · exact State.triggerHead_scenesOk hs hq

theorem cancelWork_scenesOk {s : State} (hs : s.ScenesOk) (t : Byte) : (cancelWork t s).1.ScenesOk := by
  unfold cancelWork
  split
  · exact hs
  · split
    · exact hs
    · obtain ⟨hw, ho, hc, hst⟩ := State.scenesOk_iff.mp hs
      refine State.scenesOk_iff.mpr ⟨by simpa using hw, by simpa using ho, ?_, by simpa using hst⟩
      exact CueQueue.withoutTag_scenesOk (by simpa using hc) _

theorem loadRecord_scenesOk {s : State} (hs : s.ScenesOk) {sc : Scene} (hsc : sc.Ok = true) (src : OriginSource) :
    (s.loadRecord sc src).ScenesOk := by
  have h1 : State.ScenesOk { s with working := { scene := sc, origin := ⟨src, false⟩, follow := none } } :=
    ⟨hsc, by simp, hs.2.2⟩
  unfold State.loadRecord
  exact State.removeAll_scenesOk h1 _

theorem loadSceneWork_scenesOk {s : State} (hs : s.ScenesOk) (a : Byte × Byte) : (loadSceneWork a s).1.ScenesOk := by
  unfold loadSceneWork
  dsimp only
  split
  · exact hs
  · split
    · next hr => exact loadRecord_scenesOk hs (State.readSlot_ok hs (.inl hr)) _
    · next hr => exact loadRecord_scenesOk hs (State.readSlot_ok hs (.inr hr)) _
    · exact hs
    · exact hs

theorem loadInlineWork_scenesOk {s : State} (hs : s.ScenesOk) {p : List Byte} (hp : 12 ≤ p.length) :
    (loadInlineWork p s).1.ScenesOk := by
  unfold loadInlineWork
  split
  · exact hs
  · next h => exact loadRecord_scenesOk hs (parseScene_ok hp h) _

theorem editWork_scenesOk {s : State} (hs : s.ScenesOk) (a : Byte × Byte × Byte × Byte) : (editWork a s).1.ScenesOk := by
  unfold editWork
  dsimp only
  split
  · exact hs
  · next h => exact ⟨editScene_ok hs.1 h, hs.2⟩

theorem overlayOnWork_scenesOk {s : State} (hs : s.ScenesOk) (a : Byte) : (overlayOnWork a s).1.ScenesOk := by
  unfold overlayOnWork
  repeat' split
  · exact hs
  · exact hs
  · exact hs
  · obtain ⟨hw, -, hc, hst⟩ := State.scenesOk_iff.mp hs
    refine State.scenesOk_iff.mpr ⟨⟨hw.1, by simp⟩, fun x hx r hr => ?_, hc, hst⟩
    rw [SceneStore.copyBank, Vector.toList_ofFn, List.mem_ofFn] at hx
    obtain ⟨i, hi⟩ := hx
    exact SceneStore.recordAt_ok hst (hi.trans hr)

theorem overlayOffWork_scenesOk {s : State} (hs : s.ScenesOk) (a : Unit) : (overlayOffWork a s).1.ScenesOk := by
  unfold overlayOffWork
  dsimp only
  split
  · exact hs
  · exact ⟨hs.1, by simp, hs.2.2⟩

theorem overlayWriteWork_scenesOk {s : State} (hs : s.ScenesOk) {p : List Byte} (hp : 13 ≤ p.length) :
    (overlayWriteWork p s).1.ScenesOk := by
  unfold overlayWriteWork
  dsimp only
  split
  · exact hs
  · split
    · exact hs
    · next sc h =>
      have hsc : sc.Ok = true := parseScene_ok (by rw [List.length_tail]; omega) h
      obtain ⟨hw, ho, hc, hst⟩ := State.scenesOk_iff.mp hs
      refine State.scenesOk_iff.mpr ⟨⟨hw.1, ?_⟩, Overlay.setRam_ok ho hsc, hc, hst⟩
      dsimp only
      split
      · simpa using hsc
      · exact hw.2

/-! ### The store's operation -/

/-- The record an operation writes lies in range. -/
abbrev StoreWork.RecordOk (w : StoreWork) : Prop := ∀ r ∈ w.record?, r.Ok = true

theorem StoreWork.erase_recordOk (b : Nat) (stage : EraseStage) : (StoreWork.erase b stage).RecordOk :=
  fun r hr => by simp [StoreWork.record?] at hr

theorem StoreWork.program_recordOk (b i : Nat) {r : Scene} (stage : ProgramStage) (h : r.Ok = true) :
    (StoreWork.program b i r stage).RecordOk := by
  rintro _ ⟨⟩
  exact h

theorem SceneStore.current_eq_some {st : SceneStore} {o : StoreOp} (h : st.current = some o) : st.op = some o := by
  unfold SceneStore.current at h
  split at h
  · next hop =>
    split at h
    · exact hop.trans h
    · cases h
  · cases h

theorem State.ScenesOk.current {s : State} (hs : s.ScenesOk) {o : StoreOp} (h : s.store.current = some o) : o.work.RecordOk :=
  hs.2.2.2.2.2 o (SceneStore.current_eq_some h)

/-- Putting an operation record with its record in range into the store. -/
theorem State.scenesOk_of_op {s t : State} {o : StoreOp} (hs : s.ScenesOk) (hw : t.working = s.working)
    (ho : t.overlay = s.overlay) (hc : t.cues = s.cues) (ha : t.store.array = s.store.array) (hop : t.store.op = some o)
    (hr : o.work.RecordOk) : t.ScenesOk := by
  obtain ⟨h1, h2, h3, h4⟩ := State.scenesOk_iff.mp hs
  refine State.scenesOk_iff.mpr ⟨hw ▸ h1, ho ▸ h2, hc ▸ h3, ha ▸ h4.1, ?_⟩
  rw [hop]
  rintro _ ⟨⟩
  exact hr

theorem State.failOp_scenesOk {s : State} (hs : s.ScenesOk) {o : StoreOp} (ho : o.work.RecordOk) (c : FailureCause) :
    (s.failOp o c).ScenesOk :=
  State.scenesOk_of_op (o := { o.cut with status := .failed c }) hs (by simp [State.failOp]) (by simp [State.failOp])
    (by simp [State.failOp]) (by simp [State.failOp]) (by simp [State.failOp]) ho

theorem State.finishOp_scenesOk {s : State} (hs : s.ScenesOk) {o : StoreOp} (ho : o.work.RecordOk) : (s.finishOp o).ScenesOk :=
  State.scenesOk_of_op (o := { o.cut with status := .done }) hs rfl rfl rfl rfl rfl ho

theorem StoreOp.pass_work (o : StoreOp) (micros : Nat) : (o.pass micros).work = o.work := by
  unfold StoreOp.pass
  split <;> rfl

theorem State.passTime_scenesOk {s : State} (hs : s.ScenesOk) {o : StoreOp} (ho : o.work.RecordOk) (micros : Nat)
    {event : StoreOp → State} (he : ∀ o' : StoreOp, o'.work = o.work → (event o').ScenesOk) :
    (s.passTime o micros event).ScenesOk := by
  unfold State.passTime
  split
  · exact State.failOp_scenesOk (o := { o with elapsedMicros := timerMicros }) hs ho _
  · exact he _ (o.pass_work micros)

theorem State.setStore_scenesOk {s : State} (hs : s.ScenesOk) {st : SceneStore} (hst : st.ScenesOk) :
    State.ScenesOk { s with store := st } := by
  obtain ⟨h1, h2, h3, -⟩ := State.scenesOk_iff.mp hs
  exact State.scenesOk_iff.mpr ⟨h1, h2, h3, hst⟩

theorem SceneStore.markPulse_ok {st : SceneStore} (hst : st.ScenesOk) (w : StoreWork) : (st.markPulse w).ScenesOk := by
  unfold SceneStore.markPulse
  split
  · exact SceneStore.setSlot_ok hst (by simp [Slot.record?])
  · exact SceneStore.setSlot_ok hst (by simp [Slot.record?])
  · exact hst

theorem State.startPulse_scenesOk {s : State} (hs : s.ScenesOk) {o : StoreOp} (ho : o.work.RecordOk) : (s.startPulse o).ScenesOk := by
  obtain ⟨-, -, -, hst⟩ := State.scenesOk_iff.mp hs
  exact State.setStore_scenesOk hs ⟨(SceneStore.markPulse_ok hst o.work).1, by rintro _ ⟨⟩; exact ho⟩

theorem State.nextWrite_scenesOk {s : State} (hs : s.ScenesOk) {o : StoreOp} {w : StoreWork}
    (hw : w.RecordOk) : (s.nextWrite o w).ScenesOk :=
  State.scenesOk_of_op (o := { o.cut with work := w, pulses := 0 }) hs rfl rfl rfl rfl rfl hw

theorem State.advanceOp_scenesOk {s : State} (hs : s.ScenesOk) {o : StoreOp} (ho : o.work.RecordOk) : (s.advanceOp o).ScenesOk := by
  obtain ⟨-, -, -, hst⟩ := State.scenesOk_iff.mp hs
  unfold State.advanceOp
  split
  · next hw => exact State.nextWrite_scenesOk hs fun r hr => ho r (hw ▸ hr)
  · next hw => exact State.nextWrite_scenesOk hs fun r hr => ho r (hw ▸ hr)
  · next hw =>
    refine State.finishOp_scenesOk (State.setStore_scenesOk hs (SceneStore.setSlot_ok hst fun r hr => ho r ?_)) ho
    rw [hw]
    exact hr
  · exact State.nextWrite_scenesOk hs (StoreWork.erase_recordOk _ _)
  · exact State.nextWrite_scenesOk hs (StoreWork.erase_recordOk _ _)
  · exact hs

theorem State.endPulse_scenesOk {s : State} (hs : s.ScenesOk) {o : StoreOp} (ho : o.work.RecordOk) (verified : Bool) :
    (s.endPulse verified o).ScenesOk := by
  unfold State.endPulse
  split
  · exact State.advanceOp_scenesOk hs ho
  · split
    · exact State.failOp_scenesOk hs ho _
    · exact State.scenesOk_of_op (o := o.cut) hs rfl rfl rfl rfl rfl ho

theorem State.endErasePulse_scenesOk {s : State} (hs : s.ScenesOk) {o : StoreOp} (ho : o.work.RecordOk) (erased : Bool) (b n : Nat) :
    (s.endErasePulse erased b n o).ScenesOk := by
  unfold State.endErasePulse
  split
  · exact State.finishOp_scenesOk
      (State.setStore_scenesOk hs (SceneStore.blankBank_ok (State.scenesOk_iff.mp hs).2.2.2 b)) ho
  · split
    · exact State.failOp_scenesOk hs ho _
    · exact State.scenesOk_of_op (o := { o.cut with work := .erase b (.pulse (n + 1)) }) hs rfl rfl rfl rfl rfl
        (StoreWork.erase_recordOk _ _)

theorem State.passToStatus_scenesOk {s : State} (hs : s.ScenesOk) (sinceMicros : Nat) : (s.passToStatus sinceMicros).ScenesOk := by
  unfold State.passToStatus
  split
  · next o h =>
    have ho := hs.current h
    split
    · exact State.failOp_scenesOk (o := { o with elapsedMicros := timerMicros }) hs ho _
    · refine State.scenesOk_of_op hs rfl rfl rfl rfl rfl ?_
      rw [o.pass_work]
      exact ho
  · exact hs

theorem programWork_scenesOk {s : State} (hs : s.ScenesOk) {p : List Byte} (hp : 14 ≤ p.length) :
    (programWork p s).1.ScenesOk := by
  unfold programWork
  dsimp only
  split
  · exact hs
  · split
    · exact hs
    · next sc h =>
      split
      · exact hs
      · split
        · exact hs
        · have hsc : sc.Ok = true := parseScene_ok (by rw [List.length_drop]; omega) h
          exact State.scenesOk_of_op hs rfl rfl rfl rfl rfl (StoreWork.program_recordOk _ _ _ hsc)

theorem eraseWork_scenesOk {s : State} (hs : s.ScenesOk) (a : Byte) : (eraseWork a s).1.ScenesOk := by
  unfold eraseWork
  split
  · exact hs
  · split
    · exact hs
    · exact State.scenesOk_of_op hs rfl rfl rfl rfl rfl (StoreWork.erase_recordOk _ _)

theorem execProgrammingVoltageReady_scenesOk {waitMicros : Nat} {s t : State} (hs : s.ScenesOk)
    (h : execProgrammingVoltageReady waitMicros s = .next t) : t.ScenesOk := by
  cases h
  split
  · next o ho =>
    have hr := hs.current ho
    split
    · exact State.passTime_scenesOk hs hr _ fun o' e => State.startPulse_scenesOk hs (e ▸ hr)
    · exact hs
  · exact hs

theorem execStorePulseVerify_scenesOk {verified : Bool} {s t : State} (hs : s.ScenesOk)
    (h : execStorePulseVerify verified s = .next t) : t.ScenesOk := by
  cases h
  split
  · next o ho =>
    have hr := hs.current ho
    split
    · exact State.passTime_scenesOk hs hr _ fun o' e => State.endPulse_scenesOk hs (e ▸ hr) _
    · exact hs
  · exact hs

theorem execErasePulseVerify_scenesOk {erased : Bool} {s t : State} (hs : s.ScenesOk)
    (h : execErasePulseVerify erased s = .next t) : t.ScenesOk := by
  cases h
  split
  · next o ho =>
    have hr := hs.current ho
    split
    · exact State.passTime_scenesOk hs hr _ fun o' e => State.endErasePulse_scenesOk hs (e ▸ hr) _ _ _
    · exact hs
  · exact hs

theorem execTimerExpiry_scenesOk {s t : State} (hs : s.ScenesOk) (h : execTimerExpiry s = .next t) : t.ScenesOk := by
  cases h
  split
  · next o ho =>
    have hr := hs.current ho
    exact State.failOp_scenesOk (o := { o with elapsedMicros := timerMicros }) hs hr _
  · exact hs

theorem execSupplyLoss_scenesOk {sinceMicros : Nat} {s t : State} (hs : s.ScenesOk)
    (h : execSupplyLoss sinceMicros s = .next t) : t.ScenesOk := by
  cases h
  have hs1 : State.ScenesOk { s with store := { s.store with supplyHigh := false } } := hs
  dsimp only
  split
  · next o ho =>
    have hr := hs.current ho
    exact State.passTime_scenesOk hs1 hr _ fun o' e => State.failOp_scenesOk hs1 (e ▸ hr) _
  · exact hs1

/-! ### Every command -/

/-- `dispatch_keeps`, with the parsed payload at hand where the work is done. -/
theorem dispatch_keeps_parsed {α : Type} {P : State → Prop} (hlink : ∀ (s : State) (l : Link), P s → P { s with link := l })
    {kind seq : Byte} {payload : List Byte} {parse : List Byte → Option α} {work : α → State → State × Reply}
    (hwork : ∀ a s, parse payload = some a → P s → P (work a s).1) {s : State} (h : P s) :
    P (dispatch kind seq payload parse work s) := by
  rcases dispatch_cases kind seq payload parse work s with ⟨-, h1⟩ | ⟨s1, ht, ⟨-, h1⟩ | ⟨a, ha, h1⟩⟩
  · rw [h1]; exact h
  all_goals
    rw [h1]
    obtain ⟨-, rfl⟩ := State.take_eq_some.mp ht
    apply hlink
  · exact hlink _ _ h
  · exact hwork _ _ ha (hlink _ _ h)

theorem lengthPayload_length {n : Nat} {p q : List Byte} (h : lengthPayload n p = some q) : q.length = n := by
  unfold lengthPayload at h
  split at h
  · next hn => cases h; exact hn
  · cases h

/-- The records in range where no block that holds one changes. -/
theorem State.scenesOk_of_changesOnly {l : List Block} {s t : State} (hs : s.ScenesOk) (h : s.ChangesOnly l t)
    (hl : [Block.working, .overlay, .cues, .store].all (· ∉ l) = true) : t.ScenesOk := by
  simp only [List.all_cons, List.all_nil, Bool.and_eq_true, decide_eq_true_eq, and_true] at hl
  obtain ⟨hw, ho, hc, hst⟩ := hl
  obtain ⟨h1, h2, h3, h4⟩ := State.scenesOk_iff.mp hs
  have ew : t.working = s.working := h.2 _ hw
  have eo : t.overlay = s.overlay := h.2 _ ho
  have ec : t.cues = s.cues := h.2 _ hc
  have est : t.store = s.store := h.2 _ hst
  exact State.scenesOk_iff.mpr ⟨ew ▸ h1, eo ▸ h2, ec ▸ h3, est ▸ h4⟩

theorem State.takeReset_scenesOk {s : State} (hs : s.ScenesOk) (kind : ResetKind) (high : Bool) (phase : StartPhase) :
    (s.takeReset kind high phase).ScenesOk := by
  refine State.scenesOk_iff.mpr ⟨⟨defaultScene_ok, by simp [State.takeReset, workingAtReset]⟩, ?_, List.forall_mem_nil _,
    hs.2.2.2.2.1, by simp [State.takeReset, storeAtReset]⟩
  intro x hx
  simp [State.takeReset, overlayAtReset] at hx
  simp [hx]

theorem Working.takeFollow_ok {w : Working} (hw : w.ScenesOk) : w.takeFollow.ScenesOk := by
  unfold Working.takeFollow
  split
  · next f hf => exact ⟨hw.2 f hf, by simp⟩
  · exact hw

theorem State.takeSample_working (s : State) (x : Sample) : (s.takeSample x).working = s.working := by
  rw [s.takeSample_frame x]

theorem State.completeFrame_working (s : State) : s.completeFrame.working = s.working.takeFollow := by
  simp [State.completeFrame]

theorem State.takeSample_scenesOk {s : State} (hs : s.ScenesOk) (x : Sample) : (s.takeSample x).ScenesOk := by
  rw [s.takeSample_frame x]
  exact hs

theorem State.completeFrame_scenesOk {s : State} (hs : s.ScenesOk) : s.completeFrame.ScenesOk := by
  obtain ⟨h1, h2, h3, h4⟩ := State.scenesOk_iff.mp hs
  refine State.scenesOk_iff.mpr ⟨s.completeFrame_working ▸ Working.takeFollow_ok h1, ?_⟩
  rw [s.completeFrame_frame]
  exact ⟨h2, h3, h4⟩

theorem execSelfCheckEnd_scenesOk {ramFault storeUnreadable : Bool} {s t : State} (hs : s.ScenesOk)
    (h : execSelfCheckEnd ramFault storeUnreadable s = .next t) : t.ScenesOk := by
  cases h
  split
  · have h1 : State.ScenesOk (if storeUnreadable then s.storeUnreadable else s) := by
      split
      · exact hs
      · exact hs
    have h2 := State.startEngine_frame (if storeUnreadable then s.storeUnreadable else s) ramFault
    dsimp only
    rw [h2]
    exact h1
  · exact hs

/-- A dispatched request whose work keeps the records in range. -/
theorem dispatch_scenesOk {α : Type} {kind seq : Byte} {payload : List Byte} {parse : List Byte → Option α}
    {work : α → State → State × Reply} {s : State} (hs : s.ScenesOk)
    (hwork : ∀ a u, parse payload = some a → State.ScenesOk u → (work a u).1.ScenesOk) :
    (dispatch kind seq payload parse work s).ScenesOk :=
  dispatch_keeps_parsed (P := State.ScenesOk) (fun _ _ h => h) hwork hs

/-- Every command keeps the scene records in range (R117, R119). -/
theorem exec_scenesOk {c : Instr} {s t : State} (hs : s.ScenesOk) (h : exec c s = .next t) : t.ScenesOk := by
  cases c with
  | powerOnReset high => cases h; exact State.takeReset_scenesOk hs _ _ _
  | pinReset high => cases h; exact State.takeReset_scenesOk hs _ _ _
  | softReset high =>
    cases h
    split
    · exact State.takeReset_scenesOk hs _ _ _
    · exact hs
  | selfCheckEnd _ _ => exact execSelfCheckEnd_scenesOk hs h
  | sampleEvent x =>
    cases h
    split
    · unfold State.sampleEvent
      split
      · exact State.completeFrame_scenesOk (State.takeSample_scenesOk hs x)
      · exact State.takeSample_scenesOk hs x
    · exact hs
  | frameCompletion x =>
    cases h
    split
    · exact State.completeFrame_scenesOk (State.takeSample_scenesOk hs x)
    · exact hs
  | phraseStart =>
    cases h
    split
    · exact State.phraseStartAtHead_scenesOk (by exact hs)
    · exact hs
  | loadScene _ _ => cases h; exact dispatch_scenesOk hs fun a _ _ hu => loadSceneWork_scenesOk hu a
  | loadInlineScene _ _ =>
    cases h
    exact dispatch_scenesOk hs fun _ _ hp hu => loadInlineWork_scenesOk hu (by rw [lengthPayload_length hp]; decide)
  | editWorkingScene _ _ => cases h; exact dispatch_scenesOk hs fun a _ _ hu => editWork_scenesOk hu a
  | enqueueCue _ _ =>
    cases h
    exact dispatch_scenesOk hs fun _ _ hp hu => enqueueWork_scenesOk hu (enqueuePayload_record hp)
  | fire _ _ => cases h; exact dispatch_scenesOk hs fun a _ _ hu => fireWork_scenesOk hu a
  | beat _ _ => cases h; exact dispatch_scenesOk hs fun a _ _ hu => beatWork_scenesOk hu a
  | cancelCue _ _ => cases h; exact dispatch_scenesOk hs fun a _ _ hu => cancelWork_scenesOk hu a
  | clearCues _ _ => cases h; exact dispatch_scenesOk hs fun _ _ _ hu => State.removeAll_scenesOk hu _
  | readCueResults _ _ => cases h; exact dispatch_scenesOk (work := readResultsWork) hs fun _ _ _ hu => hu
  | programSlot _ _ =>
    cases h
    exact dispatch_scenesOk hs fun _ _ hp hu => programWork_scenesOk hu (by rw [lengthPayload_length hp]; decide)
  | eraseBank _ _ => cases h; exact dispatch_scenesOk hs fun a _ _ hu => eraseWork_scenesOk hu a
  | storeStatus _ _ =>
    cases h; exact dispatch_scenesOk hs fun _ _ _ hu => State.passToStatus_scenesOk hu _
  | freezeStore _ _ =>
    cases h
    refine dispatch_scenesOk hs fun _ u _ hu => ?_
    unfold freezeWork
    split <;> exact hu
  | overlayOn _ _ => cases h; exact dispatch_scenesOk hs fun a _ _ hu => overlayOnWork_scenesOk hu a
  | overlayOff _ _ => cases h; exact dispatch_scenesOk hs fun a _ _ hu => overlayOffWork_scenesOk hu a
  | overlayWrite _ _ =>
    cases h
    exact dispatch_scenesOk hs fun _ _ hp hu => overlayWriteWork_scenesOk hu (by rw [lengthPayload_length hp]; decide)
  | programmingVoltageReady _ => exact execProgrammingVoltageReady_scenesOk hs h
  | storePulseVerify _ => exact execStorePulseVerify_scenesOk hs h
  | erasePulseVerify _ => exact execErasePulseVerify_scenesOk hs h
  | timerExpiry => exact execTimerExpiry_scenesOk hs h
  | supplyLoss _ => exact execSupplyLoss_scenesOk hs h
  | storeSupplyRestored => cases h; exact hs
  | _ => exact State.scenesOk_of_changesOnly hs (exec_changesOnly h) rfl

end Sys2Proof.Machine
end

section
/-! Proofs: the Pitch Tracker's frame completion: voicing transition, accepted pitch, silence and phrases, and its law
(chapter 1). -/

namespace Sys2Proof.Machine

/-! ### The voicing transition, state by state (R10 to R14) -/

section
variable {c : TrackerSettings} {v : Voice3} (loud : Bool) (q : Nat)

theorem transition_quiet (h : v.state = .silent ∨ v.state = .unvoiced) :
    transition c v loud q =
      if loud = true ∧ c.qOn ≤ q then ⟨.onset, 1, v.hold⟩ else { v with state := byLevel loud } := by
  rcases h with h | h <;> simp [transition, h]

theorem transition_onset (h : v.state = .onset) :
    transition c v loud q =
      if loud = false then ⟨.silent, 0, v.hold⟩
      else if c.qOn ≤ q then (if v.onset + 1 = 3 then ⟨.voiced, 0, v.hold⟩ else { v with onset := v.onset + 1 })
      else if c.qOff ≤ q then v
      else ⟨.unvoiced, 0, v.hold⟩ := by
  simp [transition, h]

theorem transition_voiced (h : v.state = .voiced) :
    transition c v loud q =
      if loud = true ∧ c.qOff ≤ q then v
      else if 1 ≤ c.hold then ⟨.release, v.onset, c.hold⟩
      else { v with state := byLevel loud } := by
  simp [transition, h]

theorem transition_release (h : v.state = .release) :
    transition c v loud q =
      if loud = true ∧ c.qOn ≤ q then ⟨.voiced, v.onset, 0⟩
      else if v.hold - 1 = 0 then ⟨byLevel loud, v.onset, 0⟩
      else { v with hold := v.hold - 1 } := by
  simp [transition, h]

end

theorem byLevel_cases (loud : Bool) : byLevel loud = .silent ∨ byLevel loud = .unvoiced := by
  cases loud <;> simp [byLevel]

/-! ### The parts of a frame completion -/

/-- The voicing state and counts a frame completion leaves. -/
def Tracker.voiceAfter (t : Tracker) (m : Measures) : Voice3 :=
  transition t.settings ⟨t.state, t.onsetCount, t.holdCount⟩ (t.settings.gate ≤ m.level) m.q

/-- The accepted pitch a frame completion leaves. -/
def Tracker.heldAfter (t : Tracker) (m : Measures) : Held :=
  Held.frame ⟨t.held, t.jumpPending, t.lastAccepted⟩ t.state (t.voiceAfter m).state (pitchOf m.t16 t.fRef) m.t16

/-- The phrase event of a frame completion. -/
def Tracker.eventAfter (t : Tracker) (m : Measures) : PhraseEvent :=
  phraseEventOf t.settings t.betweenPhrases t.state (t.voiceAfter m).state (silenceAfter (t.voiceAfter m).state t.silenceCount)

section
variable (t : Tracker) (m : Measures)

@[simp] theorem Tracker.takeFrame_state : (t.takeFrame m).state = (t.voiceAfter m).state := rfl
@[simp] theorem Tracker.takeFrame_onsetCount : (t.takeFrame m).onsetCount = (t.voiceAfter m).onset := rfl
@[simp] theorem Tracker.takeFrame_holdCount : (t.takeFrame m).holdCount = (t.voiceAfter m).hold := rfl
@[simp] theorem Tracker.takeFrame_silenceCount :
    (t.takeFrame m).silenceCount = silenceAfter (t.voiceAfter m).state t.silenceCount := rfl
@[simp] theorem Tracker.takeFrame_betweenPhrases :
    (t.takeFrame m).betweenPhrases = betweenAfter t.betweenPhrases (t.eventAfter m) := rfl
@[simp] theorem Tracker.takeFrame_held : (t.takeFrame m).held = (t.heldAfter m).held := rfl
@[simp] theorem Tracker.takeFrame_jumpPending : (t.takeFrame m).jumpPending = (t.heldAfter m).pending := rfl
@[simp] theorem Tracker.takeFrame_lastAccepted : (t.takeFrame m).lastAccepted = (t.heldAfter m).last := rfl
@[simp] theorem Tracker.takeFrame_record : (t.takeFrame m).record =
    { state := (t.voiceAfter m).state, level := m.level, q := m.q, t16 := m.t16, held := (t.heldAfter m).held,
      lastAccepted := (t.heldAfter m).last, event := t.eventAfter m } := rfl
@[simp] theorem Tracker.takeFrame_phraseStartsAwaiting : (t.takeFrame m).phraseStartsAwaiting =
    t.phraseStartsAwaiting + if t.eventAfter m = .phraseStart then 1 else 0 := rfl

/-- ONSET is entered from SILENT and UNVOICED, RELEASE from VOICED, and each may go on (R10 to R14). -/
theorem Tracker.voiceAfter_onset (h : (t.voiceAfter m).state = .onset) :
    t.state = .silent ∨ t.state = .unvoiced ∨ t.state = .onset := by
  have hb := byLevel_cases (decide (t.settings.gate ≤ m.level))
  unfold Tracker.voiceAfter at h
  cases hs : t.state with
  | silent | unvoiced | onset => simp
  | voiced => rw [transition_voiced _ _ hs] at h; split_ifs at h <;> simp_all
  | release => rw [transition_release _ _ hs] at h; split_ifs at h <;> simp_all

theorem Tracker.voiceAfter_release (h : (t.voiceAfter m).state = .release) : t.state = .voiced ∨ t.state = .release := by
  have hb := byLevel_cases (decide (t.settings.gate ≤ m.level))
  unfold Tracker.voiceAfter at h
  cases hs : t.state with
  | silent | unvoiced =>
    rw [transition_quiet _ _ (by simp [hs])] at h
    split_ifs at h
    simp_all
  | onset => rw [transition_onset _ _ hs] at h; split_ifs at h <;> simp_all
  | voiced | release => simp

end

/-- Settles O10, by the transition of each voicing state. -/
theorem voicingTransitions : Obligations.VoicingTransitions := by
  unfold Obligations.VoicingTransitions
  intro t m
  dsimp only
  simp only [Tracker.takeFrame_state, Tracker.takeFrame_onsetCount, Tracker.takeFrame_holdCount, Tracker.voiceAfter]
  refine ⟨fun h => ?_, fun h => ?_, fun h => ?_, fun h hh => ?_⟩
  · rw [transition_quiet _ _ h]
    refine ⟨fun hl => ?_, fun hl hq => ?_, fun hl hq => ?_⟩
    · simp [hl, byLevel]
    · simp [hl, hq]
    · simp [hl, Nat.not_le.mpr hq, byLevel]
  · rw [transition_onset _ _ h]
    refine ⟨fun hl => ?_, fun hl hq hn => ?_, fun hl hq hn => ?_, fun hl hq hf => ?_, fun hl hq hf => ?_⟩
    · simp [hl]
    · simp [hl, hq, hn]
    · simp [hl, hq, hn, h]
    · simp [hl, Nat.not_le.mpr hq, hf, h]
    · simp [hl, Nat.not_le.mpr hq, Nat.not_le.mpr hf]
  · rw [transition_voiced _ _ h]
    refine ⟨fun hl hq => ?_, fun hf => ?_⟩
    · simp [hl, hq, h]
    · have hn : ¬(decide (t.settings.gate ≤ m.level) = true ∧ t.settings.qOff ≤ m.q) := by
        rw [decide_eq_true_eq]
        rintro ⟨hl, hq⟩
        exact hf.elim (· hl) fun h => by omega
      rw [if_neg hn]
      split <;> simp [byLevel]
  · rw [transition_release _ _ h]
    refine ⟨fun hl hq => ?_, fun hf => ?_⟩
    · simp [hl, hq]
    · have hn : ¬(decide (t.settings.gate ≤ m.level) = true ∧ t.settings.qOn ≤ m.q) := by
        rw [decide_eq_true_eq]
        rintro ⟨hl, hq⟩
        exact hf.elim (· hl) fun h => by omega
      rw [if_neg hn]
      by_cases h1 : t.holdCount = 1
      · simp [h1, byLevel]
      · have h2 : ¬(t.holdCount - 1 = 0) := by omega
        simp [h1, h2, h]

/-! ### The accepted pitch (R15, R16) -/

section
variable (h : Held) (p : Int) (t16 : Nat)

/-- The jump-pending pitch is confirmed by a frame pitch within 100 cents of it (R15). -/
def Held.confirms : Prop := ∃ x, h.pending = some x ∧ (p - x).natAbs ≤ 100

/-- The frame pitch lies more than 700 cents from the held pitch (R15). -/
def Held.jumps : Prop := ∃ x, h.held = some x ∧ 700 < (p - x).natAbs

theorem Held.guard_confirmed (hc : h.confirms p) : h.guard p t16 = { h.accept p t16 with pending := none } := by
  obtain ⟨x, hx, hd⟩ := hc
  simp [Held.guard, hx, hd]

theorem Held.guard_jump (hc : ¬h.confirms p) (hj : h.jumps p) : h.guard p t16 = { h with pending := some p } := by
  obtain ⟨x, hx, hd⟩ := hj
  have hp : ∀ y, h.pending = some y → ¬(p - y).natAbs ≤ 100 := fun y hy hd => hc ⟨y, hy, hd⟩
  cases hpend : h.pending with
  | none => simp [Held.guard, hpend, hx, hd]
  | some y => simp [Held.guard, hpend, hx, hd, hp y hpend]

theorem Held.guard_near (hc : ¬h.confirms p) (hj : ¬h.jumps p) :
    h.guard p t16 = { h.accept p t16 with pending := none } := by
  have hp : ∀ y, h.pending = some y → ¬(p - y).natAbs ≤ 100 := fun y hy hd => hc ⟨y, hy, hd⟩
  have hh : ∀ y, h.held = some y → ¬700 < (p - y).natAbs := fun y hy hd => hj ⟨y, hy, hd⟩
  cases hpend : h.pending with
  | none => cases hheld : h.held with
    | none => simp [Held.guard, hpend, hheld]
    | some x => simp [Held.guard, hpend, hheld, hh x hheld]
  | some y => cases hheld : h.held with
    | none => simp [Held.guard, hpend, hheld, hp y hpend]
    | some x => simp [Held.guard, hpend, hheld, hp y hpend, hh x hheld]

theorem Held.frame_voiced_voiced : h.frame .voiced .voiced p t16 = h.guard p t16 := rfl

theorem Held.frame_onset (before : Voicing) : h.frame before .onset p t16 = h.accept p t16 := by
  cases before <;> rfl

theorem Held.frame_enters_voiced {before : Voicing} (hb : before ≠ .voiced) : h.frame before .voiced p t16 = h.accept p t16 := by
  cases before <;> first | rfl | exact absurd rfl hb

/-- Frames that end SILENT drop the held pitch, and out of VOICED the jump-pending pitch too. -/
theorem Held.frame_silent (before : Voicing) :
    h.frame before .silent p t16 =
      { h with held := none, pending := if before = .voiced then none else h.pending } := by
  cases before <;> rfl

/-- Frames that end in RELEASE or UNVOICED keep the held pitch, and out of VOICED drop the jump-pending pitch. -/
theorem Held.frame_keeps {after : Voicing} (ha : after = .release ∨ after = .unvoiced) (before : Voicing) :
    h.frame before after p t16 = { h with pending := if before = .voiced then none else h.pending } := by
  rcases ha with rfl | rfl <;> cases before <;> rfl

end

/-- Settles O11, by the accepted pitch of each pair of voicing states. -/
theorem heldPitchAndGuard : Obligations.HeldPitchAndGuard := by
  unfold Obligations.HeldPitchAndGuard
  intro t m
  dsimp only
  simp only [Tracker.takeFrame_state, Tracker.takeFrame_held, Tracker.takeFrame_jumpPending, Tracker.takeFrame_lastAccepted]
  refine ⟨fun hb ha => ⟨fun hc => ?_, fun hc hj => ?_, fun hc hj => ?_⟩, fun hb ha => ?_, fun ha => ?_, fun hb ha => ?_,
    fun ha => ?_, fun ha => ?_, rfl, rfl, rfl, rfl, rfl⟩
  all_goals rw [Tracker.heldAfter]
  · rw [hb, ha, Held.frame_voiced_voiced, Held.guard_confirmed ⟨t.held, t.jumpPending, t.lastAccepted⟩ _ _ hc]
    exact ⟨⟨rfl, rfl⟩, rfl⟩
  · rw [hb, ha, Held.frame_voiced_voiced, Held.guard_jump ⟨t.held, t.jumpPending, t.lastAccepted⟩ _ _ hc hj]
    exact ⟨⟨rfl, rfl⟩, rfl⟩
  · rw [hb, ha, Held.frame_voiced_voiced, Held.guard_near ⟨t.held, t.jumpPending, t.lastAccepted⟩ _ _ hc hj]
    exact ⟨⟨rfl, rfl⟩, rfl⟩
  · cases hs : (t.voiceAfter m).state with
    | silent => rw [hb, Held.frame_silent]; rfl
    | unvoiced => rw [hb, Held.frame_keeps _ _ _ (.inr rfl)]; rfl
    | onset => have := t.voiceAfter_onset m hs; simp [hb] at this
    | voiced => exact absurd hs ha
    | release => rw [hb, Held.frame_keeps _ _ _ (.inl rfl)]; rfl
  · rw [ha, Held.frame_onset]
    exact ⟨rfl, rfl⟩
  · rw [ha, Held.frame_enters_voiced _ _ _ hb]
    exact ⟨rfl, rfl⟩
  · rw [Held.frame_keeps _ _ _ ha]
    exact ⟨rfl, rfl⟩
  · rw [ha, Held.frame_silent]
    exact ⟨rfl, rfl⟩

/-! ### Silence and phrases (R17 to R19) -/

/-- A PHRASE END: a phrase was open and the silence has reached the phrase gap (R18). -/
theorem phraseEventOf_end {c : TrackerSettings} {before after : Voicing} {between : Bool} {silence : Nat}
    (h : after = .silent ∧ between = false ∧ c.phraseGap ≤ silence) : phraseEventOf c between before after silence = .phraseEnd :=
  if_pos h

/-- A PHRASE START: ONSET is entered between phrases (R19). -/
theorem phraseEventOf_start {c : TrackerSettings} {before after : Voicing} {between : Bool} {silence : Nat}
    (h : after = .onset ∧ (before = .silent ∨ before = .unvoiced) ∧ between = true) :
    phraseEventOf c between before after silence = .phraseStart := by
  rw [phraseEventOf, if_neg (by simp [h.1]), if_pos h]

theorem phraseEventOf_none {c : TrackerSettings} {before after : Voicing} {between : Bool} {silence : Nat}
    (he : ¬(after = .silent ∧ between = false ∧ c.phraseGap ≤ silence))
    (hs : ¬(after = .onset ∧ (before = .silent ∨ before = .unvoiced) ∧ between = true)) :
    phraseEventOf c between before after silence = .none := by
  rw [phraseEventOf, if_neg he, if_neg hs]

theorem phraseEventOf_ne_start {c : TrackerSettings} {before after : Voicing} {between : Bool} {silence : Nat}
    (hs : ¬(after = .onset ∧ (before = .silent ∨ before = .unvoiced) ∧ between = true)) :
    phraseEventOf c between before after silence ≠ .phraseStart := by
  rw [phraseEventOf, if_neg hs]
  split <;> simp

/-- Settles O12, by the three phrase events. -/
theorem silenceAndPhrases : Obligations.SilenceAndPhrases := by
  unfold Obligations.SilenceAndPhrases
  intro t m
  dsimp only
  simp only [Tracker.takeFrame_state, Tracker.takeFrame_silenceCount, Tracker.takeFrame_betweenPhrases,
    Tracker.takeFrame_record, Tracker.takeFrame_phraseStartsAwaiting]
  refine ⟨fun h hc => ?_, fun h => if_neg h, fun h => ?_, fun h => ?_, fun he hs => ?_, fun hs => ?_⟩
  · rw [silenceAfter, if_pos h]
    split <;> omega
  · have e : t.eventAfter m = .phraseEnd := phraseEventOf_end h
    simp [e, betweenAfter]
  · have e : t.eventAfter m = .phraseStart := phraseEventOf_start h
    simp [e, betweenAfter]
  · have e : t.eventAfter m = .none := phraseEventOf_none he hs
    simp [e, betweenAfter]
  · have e : t.eventAfter m ≠ .phraseStart := phraseEventOf_ne_start hs
    simp [e]

/-! ### The search range and the measures' ranges (R2, R3, R5) -/

theorem TrackerSettings.tLo_spec {c : TrackerSettings} (hc : c.Ok) :
    768000 ≤ c.tLo * c.highHz ∧ (c.tLo - 1) * c.highHz < 768000 ∧ 549 ≤ c.tLo := by
  obtain ⟨h1, h2, h3, -⟩ := hc
  have hpos : 0 < c.highHz := by omega
  have hd := Nat.div_add_mod (768000 + c.highHz - 1) c.highHz
  have hm := Nat.mod_lt (768000 + c.highHz - 1) hpos
  change c.highHz * c.tLo + _ = _ at hd
  rw [Nat.mul_comm] at hd
  have hlo : 549 ≤ c.tLo := (Nat.le_div_iff_mul_le hpos).mpr (by omega)
  have hsub : (c.tLo - 1) * c.highHz + c.highHz = c.tLo * c.highHz := by
    rw [← Nat.succ_mul, Nat.succ_eq_add_one, Nat.sub_add_cancel (by omega)]
  omega

theorem TrackerSettings.tHi_spec {c : TrackerSettings} (hc : c.Ok) :
    c.tHi * c.lowHz ≤ 768000 ∧ 768000 < (c.tHi + 1) * c.lowHz ∧ c.tHi ≤ 10971 := by
  obtain ⟨h1, -⟩ := hc
  have hpos : 0 < c.lowHz := by omega
  refine ⟨Nat.div_mul_le_self _ _, ?_, ?_⟩
  · rw [Nat.mul_comm]
    exact Nat.lt_mul_div_succ _ hpos
  · exact Nat.lt_succ_iff.mp ((Nat.div_lt_iff_lt_mul hpos).mpr (by omega))

/-- The search range of settings in range is not empty (R5). -/
theorem TrackerSettings.tLo_le_tHi {c : TrackerSettings} (hc : c.Ok) : c.tLo ≤ c.tHi := by
  have hlo := TrackerSettings.tLo_spec hc
  obtain ⟨h1, h2, h3, -⟩ := hc
  refine (Nat.le_div_iff_mul_le (by omega)).mpr ?_
  have hmul : (c.tLo - 1) * (2 * c.lowHz) ≤ (c.tLo - 1) * c.highHz := Nat.mul_le_mul_left _ h2
  have hsplit : c.tLo * c.lowHz = (c.tLo - 1) * c.lowHz + c.lowHz := by
    rw [← Nat.succ_mul, Nat.succ_eq_add_one, Nat.sub_add_cancel (by omega)]
  have hassoc : (c.tLo - 1) * (2 * c.lowHz) = 2 * ((c.tLo - 1) * c.lowHz) := Nat.mul_left_comm _ _ _
  omega

/-- The period estimate lies within the search range (R3). -/
theorem periodOf_mem {tLo tHi : Nat} (h : tLo ≤ tHi) (lag : Nat) (r1 r2 r3 : Corr) :
    tLo ≤ periodOf tLo tHi lag r1 r2 r3 ∧ periodOf tLo tHi lag r1 r2 r3 ≤ tHi :=
  have hm := clampInt_mem (Int.ofNat_le.mpr h) (16 * (lag : Int) + refine r1 r2 r3)
  toNat_mem hm.1 hm.2

theorem levelOf_mem (sum : Nat) : -96 ≤ levelOf sum ∧ levelOf sum ≤ 0 := by
  unfold levelOf
  split
  · next k hk =>
    have := List.mem_range.mp (List.mem_of_find?_eq_some hk)
    omega
  · decide

theorem measure_periodOk {window : List Sample} {c : TrackerSettings} (hc : c.Ok) :
    PeriodOk (measure window c.tLo c.tHi).t16 := by
  have h := periodOf_mem (TrackerSettings.tLo_le_tHi hc)
  have hlo := (TrackerSettings.tLo_spec hc).2.2
  have hhi := (TrackerSettings.tHi_spec hc).2.2
  exact ⟨hlo.trans (h _ _ _ _).1, (h _ _ _ _).2.trans hhi⟩

theorem measure_level (window : List Sample) (tLo tHi : Nat) :
    (measure window tLo tHi).level = levelOf (energy (newest window)) := by
  simp only [measure]

theorem measure_level_mem (window : List Sample) (tLo tHi : Nat) :
    -96 ≤ (measure window tLo tHi).level ∧ (measure window tLo tHi).level ≤ 0 := by
  rw [measure_level]
  exact levelOf_mem _

/-! ### The tracker's law (Safety.lean) -/

theorem clampSettings_ok (low high : Nat) (gate : Int) (qOn qOff hold gap : Nat) :
    (clampSettings low high gate qOn qOff hold gap).Ok := by
  have hl := clampNat_mem (by decide : 70 ≤ 1400) low
  have hh := clampNat_mem (by decide : 70 ≤ 1400) high
  have hon := clampNat_mem (by decide : 30 ≤ 95) qOn
  refine ⟨?_, ?_, ?_, clampInt_mem (by decide) gate, hon, clampNat_mem (by omega) qOff,
    clampNat_le (lo := 0) (by decide) hold, clampNat_mem (by decide) gap⟩ <;> simp only [clampSettings] <;> split_ifs <;> omega

theorem defaultTrackerSettings_ok : defaultTrackerSettings.Ok := by decide

theorem trackerAtRest_ok {c : TrackerSettings} (hc : c.Ok) {fRef : Nat} (hf : 4150 ≤ fRef ∧ fRef ≤ 4660) :
    (trackerAtRest c fRef).Ok := by
  have hp : PeriodOk c.tLo :=
    ⟨(TrackerSettings.tLo_spec hc).2.2, (TrackerSettings.tLo_le_tHi hc).trans (TrackerSettings.tHi_spec hc).2.2⟩
  exact ⟨hc, hf, List.length_replicate, (by decide : 0 < 256), (by decide : 0 < 3), Nat.zero_le _, Nat.zero_le _,
    (by simp : ∀ p ∈ (none : Option Nat), PeriodOk p), (fun h => by rcases h with h | h | h <;> cases h), fun _ => rfl,
    (fun h => by cases h), (fun h => by cases h), ⟨rfl, rfl, rfl⟩, hp, (by decide : -96 ≤ (-96 : Int) ∧ (-96 : Int) ≤ 0)⟩

theorem Tracker.takeSample_ok {t : Tracker} (ht : t.Ok) (x : Sample) : (t.takeSample x).Ok := by
  obtain ⟨h1, h2, h3, -, h5⟩ := ht
  refine ⟨h1, h2, ?_, Nat.mod_lt _ (by decide), h5⟩
  simp [Tracker.takeSample, h3]

section
variable {t : Tracker} (m : Measures)

theorem Tracker.voiceAfter_onset_lt (h : t.onsetCount < 3) : (t.voiceAfter m).onset < 3 := by
  unfold Tracker.voiceAfter
  cases hs : t.state with
  | silent | unvoiced => rw [transition_quiet _ _ (by simp)]; split_ifs <;> simp [h]
  | onset => rw [transition_onset _ _ rfl]; simp only [apply_ite Voice3.onset]; split_ifs <;> omega
  | voiced => rw [transition_voiced _ _ rfl]; split_ifs <;> exact h
  | release => rw [transition_release _ _ rfl]; split_ifs <;> exact h

theorem Tracker.voiceAfter_hold_le (h : t.holdCount ≤ 60) (hc : t.settings.hold ≤ 60) : (t.voiceAfter m).hold ≤ 60 := by
  unfold Tracker.voiceAfter
  cases hs : t.state with
  | silent | unvoiced => rw [transition_quiet _ _ (by simp)]; split_ifs <;> exact h
  | onset => rw [transition_onset _ _ rfl]; split_ifs <;> exact h
  | voiced => rw [transition_voiced _ _ rfl]; split_ifs <;> assumption
  | release => rw [transition_release _ _ rfl]; split_ifs <;> dsimp only <;> omega

/-- A frame that ends in RELEASE leaves a hold count of at least 1 (R14). -/
theorem Tracker.voiceAfter_release_hold (h : (t.voiceAfter m).state = .release) : 1 ≤ (t.voiceAfter m).hold := by
  have hb := byLevel_cases (decide (t.settings.gate ≤ m.level))
  rcases t.voiceAfter_release m h with hs | hs
  · unfold Tracker.voiceAfter at h ⊢
    rw [transition_voiced _ _ hs] at h ⊢
    split_ifs at h ⊢ <;> simp_all
  · unfold Tracker.voiceAfter at h ⊢
    rw [transition_release _ _ hs] at h ⊢
    split_ifs at h ⊢ <;> simp_all
    omega

theorem Held.guard_held_isSome {h : Held} (hh : h.held.isSome) (p : Int) (t16 : Nat) : (h.guard p t16).held.isSome := by
  by_cases hc : h.confirms p
  · rw [Held.guard_confirmed _ _ _ hc]; rfl
  · by_cases hj : h.jumps p
    · rw [Held.guard_jump _ _ _ hc hj]; exact hh
    · rw [Held.guard_near _ _ _ hc hj]; rfl

/-- In ONSET, VOICED and RELEASE a held pitch is present, and in SILENT none (R16). -/
theorem Tracker.heldAfter_held_isSome (hk : t.state = .onset ∨ t.state = .voiced ∨ t.state = .release → t.held.isSome)
    (h : (t.voiceAfter m).state = .onset ∨ (t.voiceAfter m).state = .voiced ∨ (t.voiceAfter m).state = .release) :
    (t.heldAfter m).held.isSome := by
  unfold Tracker.heldAfter
  rcases h with h | h | h
  · rw [h, Held.frame_onset]; rfl
  · rw [h]
    by_cases hb : t.state = .voiced
    · rw [hb, Held.frame_voiced_voiced]
      exact Held.guard_held_isSome (hk (.inr (.inl hb))) _ _
    · rw [Held.frame_enters_voiced _ _ _ hb]; rfl
  · rw [h, Held.frame_keeps _ _ _ (.inl rfl)]
    exact hk (.inr (t.voiceAfter_release m h))

theorem Tracker.heldAfter_silent (h : (t.voiceAfter m).state = .silent) : (t.heldAfter m).held = none := by
  rw [Tracker.heldAfter, h, Held.frame_silent]

/-- A jump-pending pitch is present in VOICED alone (R15). -/
theorem Tracker.heldAfter_pending (hk : t.jumpPending.isSome → t.state = .voiced) (h : (t.heldAfter m).pending.isSome) :
    (t.voiceAfter m).state = .voiced := by
  have hb : t.state ≠ .voiced → t.jumpPending = none := fun hb => by
    cases hj : t.jumpPending with
    | none => rfl
    | some x => exact absurd (hk (by simp [hj])) hb
  unfold Tracker.heldAfter at h
  cases hs : (t.voiceAfter m).state with
  | voiced => rfl
  | silent =>
    rw [hs, Held.frame_silent] at h
    split at h <;> simp_all
  | unvoiced =>
    rw [hs, Held.frame_keeps _ _ _ (.inr rfl)] at h
    split at h <;> simp_all
  | release =>
    rw [hs, Held.frame_keeps _ _ _ (.inl rfl)] at h
    split at h <;> simp_all
  | onset =>
    have hq : t.state ≠ .voiced := fun e => by simpa [e] using t.voiceAfter_onset m hs
    rw [hs, Held.frame_onset] at h
    simp [Held.accept, hb hq] at h

/-- The last accepted period is the frame's or the one before. -/
theorem Held.frame_last (h : Held) (before after : Voicing) (p : Int) (t16 : Nat) :
    (h.frame before after p t16).last = some t16 ∨ (h.frame before after p t16).last = h.last := by
  cases after with
  | onset => rw [Held.frame_onset]; exact .inl rfl
  | silent => rw [Held.frame_silent]; exact .inr rfl
  | unvoiced => rw [Held.frame_keeps _ _ _ (.inr rfl)]; exact .inr rfl
  | release => rw [Held.frame_keeps _ _ _ (.inl rfl)]; exact .inr rfl
  | voiced =>
    by_cases hb : before = .voiced
    · rw [hb, Held.frame_voiced_voiced]
      by_cases hc : h.confirms p
      · rw [Held.guard_confirmed _ _ _ hc]; exact .inl rfl
      · by_cases hj : h.jumps p
        · rw [Held.guard_jump _ _ _ hc hj]; exact .inr rfl
        · rw [Held.guard_near _ _ _ hc hj]; exact .inl rfl
    · rw [Held.frame_enters_voiced _ _ _ hb]; exact .inl rfl

theorem silenceAfter_le (after : Voicing) (count : Nat) : silenceAfter after count ≤ 255 := by
  unfold silenceAfter
  split_ifs <;> omega

/-- A frame completion keeps the tracker's law for measures in their ranges (R12 to R20). -/
theorem Tracker.takeFrame_ok (ht : t.Ok) (hp : PeriodOk m.t16) (hl : -96 ≤ m.level ∧ m.level ≤ 0) : (t.takeFrame m).Ok := by
  obtain ⟨h1, h2, h3, h4, h5, h6, -, h8, h9, -, -, h12, -⟩ := ht
  refine ⟨h1, h2, h3, h4, t.voiceAfter_onset_lt m h5, t.voiceAfter_hold_le m h6 h1.2.2.2.2.2.2.1, silenceAfter_le _ _,
    fun p hm => ?_, t.heldAfter_held_isSome m h9, t.heldAfter_silent m, t.voiceAfter_release_hold m,
    t.heldAfter_pending m h12, ⟨rfl, rfl, rfl⟩, hp, hl⟩
  rcases Held.frame_last ⟨t.held, t.jumpPending, t.lastAccepted⟩ t.state (t.voiceAfter m).state (pitchOf m.t16 t.fRef) m.t16
    with e | e
  · cases (show some m.t16 = some p from e.symm.trans hm)
    exact hp
  · exact h8 p (e.symm.trans hm)

end

theorem Tracker.completeFrame_ok {t : Tracker} (ht : t.Ok) : t.completeFrame.Ok :=
  Tracker.takeFrame_ok (measure t.window t.settings.tLo t.settings.tHi) ht (measure_periodOk ht.1) (measure_level_mem _ _ _)

end Sys2Proof.Machine
end

section
/-! Proofs: the laws of the Voice Planner and of the Shift Engine, and that every command keeps them (chapters 3 and 4). -/

namespace Sys2Proof.Machine

/-! ### Planned notes lie in their voice's range (R57 to R62) -/

theorem fold_mem {low high : Nat} (hr : low + 12 ≤ high) (h : Int) : (low : Int) ≤ fold low high h ∧ fold low high h ≤ high := by
  simp only [fold]
  split_ifs <;> omega

/-- Collision resolution leaves a folded note or none. -/
theorem resolve_note_mem {l : Lead} {v : VoiceRule} {taken : List Int} {h n : Int} (hr : v.low + 12 ≤ v.high)
    (hh : (v.low : Int) ≤ h ∧ h ≤ v.high) (hn : (resolve l v taken h).note = some n) : (v.low : Int) ≤ n ∧ n ≤ v.high := by
  unfold resolve at hn
  dsimp only at hn
  split_ifs at hn <;> cases hn <;> first | exact hh | exact fold_mem hr _

theorem place_note_mem {l : Lead} {avoid speaks : Bool} {v : VoiceRule} {taken : List Int} {n : Int}
    (hr : v.low + 12 ≤ v.high) (hn : (place l avoid speaks v taken).note = some n) : (v.low : Int) ≤ n ∧ n ≤ v.high := by
  unfold place at hn
  split at hn
  · cases hn
  · next h0 _ =>
    dsimp only at hn
    split at hn
    · exact resolve_note_mem hr (fold_mem hr h0) hn
    · cases hn
      exact fold_mem hr h0

/-- The note planned for a voice in range is a note from 24 to 108 (R58). -/
theorem place_note_ok {l : Lead} {avoid speaks : Bool} {v : VoiceRule} (hv : v.Ok = true) {taken : List Int} {n : Int}
    (hn : n ∈ (place l avoid speaks v taken).note) : 24 ≤ n ∧ n ≤ 108 := by
  obtain ⟨-, ⟨h1, h2, h3⟩, -⟩ := VoiceRule.ok_iff.mp hv
  have := place_note_mem h2 hn
  omega

/-! ### The planner's law -/

theorem planVoice_ok {sc : Scene} {mode : EngineMode} {state : Voicing} {n e : Int} {v : VoiceRule} {env : EnvState}
    {pl : Placed} {old : PlanVoice} (hn : ∀ h ∈ pl.note, 24 ≤ h ∧ h ≤ 108) (ho : old.Ok) :
    (planVoice sc mode state n e v env pl old).Ok := by
  unfold planVoice
  split
  · exact ⟨by simp, ho.2⟩
  · next h hh =>
    have hs := clampInt_mem (by decide : (-2400 : Int) ≤ 2400)
    refine ⟨?_, hs _, (ratioOf_spec (hs _).1 (hs _).2).2.2⟩
    rintro _ ⟨⟩
    exact hn h hh

theorem PlanVoice.rest_ok {v : PlanVoice} (h : v.Ok) : v.rest.Ok := ⟨by simp [PlanVoice.rest], h.2⟩

theorem plannerAtRest_ok : plannerAtRest.voices.All PlanVoice.Ok := by
  have h : planVoiceAtRest.Ok := ⟨by simp [planVoiceAtRest], by decide, by decide⟩
  exact ⟨h, h, h, h⟩

/-- A frame completion keeps the planned values in their ranges (R58, R67, R68). -/
theorem Planner.completeFrame_ok {p : Planner} (hp : p.voices.All PlanVoice.Ok) {sc : Scene} (hsc : sc.Ok = true)
    (rec : FrameRecord) (view : PlanningView) (mode : EngineMode) (envs : Four EnvState) :
    (p.completeFrame rec view sc mode envs).voices.All PlanVoice.Ok := by
  obtain ⟨h0, h1, h2, h3⟩ := hp
  obtain ⟨v0, v1, v2, v3⟩ := (Scene.ok_iff.mp hsc).2.2.2.2.2.2.2.2.2.2.2
  unfold Planner.completeFrame
  split
  · exact ⟨PlanVoice.rest_ok h0, PlanVoice.rest_ok h1, PlanVoice.rest_ok h2, PlanVoice.rest_ok h3⟩
  · exact ⟨planVoice_ok (fun _ hn => place_note_ok v0 hn) h0, planVoice_ok (fun _ hn => place_note_ok v1 hn) h1,
      planVoice_ok (fun _ hn => place_note_ok v2 hn) h2, planVoice_ok (fun _ hn => place_note_ok v3 hn) h3⟩

/-! ### Heads (R80 to R88) -/

/-- An advanced head stands right behind the sample just written, its lag carried (R80, R81). -/
theorem Head.advance_ok {w : Nat} {h : Head} (hh : h.Ok w) (ratio : Nat) : (h.advance ratio).Ok ((w + 1) % 4096) := by
  obtain ⟨h1, h2, h3⟩ := hh
  refine ⟨Nat.mod_lt _ (by decide), Nat.mod_lt _ (by decide), ?_⟩
  simp only [Head.advance]
  omega

/-- A ratio in range moves a lag by at most three samples back and one on. -/
theorem Head.advance_lag {h : Head} (hf : h.frac < 8192) {ratio : Nat} (h1 : 2048 ≤ ratio) (h2 : ratio ≤ 32768) :
    h.lag - 3 ≤ (h.advance ratio).lag ∧ (h.advance ratio).lag ≤ h.lag + 1 := by
  simp only [Head.advance]
  omega

/-- A jump by whole samples keeps a head's place and lag consistent (R84, R85). -/
theorem Head.jump_ok {w : Nat} {h : Head} (hh : h.Ok w) (back : Int) : (h.jump back).Ok w := by
  obtain ⟨h1, h2, h3⟩ := hh
  refine ⟨?_, h2, ?_⟩ <;> simp only [Head.jump] <;> omega

theorem splicePeriod_mem {last : Option Nat} (h : ∀ p ∈ last, PeriodOk p) : 34 ≤ splicePeriod last ∧ splicePeriod last ≤ 686 := by
  unfold splicePeriod
  split
  · next t16 =>
    have := h t16 rfl
    omega
  · decide

/-- A splice lands at a lag from 480 up to less than a period further (R84, R85). -/
theorem spliceJump_lands {tp : Nat} (htp : 0 < tp) {lag back : Int} (h : spliceJump tp lag = some back) :
    480 ≤ lag + back ∧ lag + back < 480 + tp := by
  have hb : back = -((lag - 480) / tp) * tp := by
    unfold spliceJump at h
    split at h
    · cases h; rfl
    · split at h
      · cases h; rfl
      · cases h
  have hpos : (0 : Int) < tp := by exact_mod_cast htp
  have hdiv := Int.mul_ediv_add_emod (lag - 480) tp
  have hmod := Int.emod_nonneg (lag - 480) hpos.ne'
  have hlt := Int.emod_lt_of_pos (lag - 480) hpos
  have e : back = -((tp : Int) * ((lag - 480) / tp)) := by rw [hb, Int.neg_mul, Int.mul_comm]
  omega

/-- Between the guards there is no splice. -/
theorem spliceJump_none {tp : Nat} {lag : Int} (h : spliceJump tp lag = none) : 96 ≤ lag ∧ lag ≤ 1536 := by
  unfold spliceJump at h
  split at h
  · cases h
  · split at h
    · cases h
    · omega

theorem Crossfade.next_ok {w : Nat} {f g : Crossfade} (hf : f.Ok w) (h : f.next = some g) : g.Ok w := by
  unfold Crossfade.next at h
  split at h
  · cases h
  · next hlen =>
    cases h
    exact ⟨hf.1, hf.2.1, hf.2.2.1, by dsimp only; omega⟩

/-- The fading head of an advanced crossfade can be read, or has been dropped (R88). -/
theorem dropFade_advance_ok {w ratio : Nat} {fade : Option Crossfade} (hf : ∀ f ∈ fade, f.Ok w) :
    ∀ g ∈ (dropFade (fade.map fun f => { f with fading := f.fading.advance ratio })).1, g.Ok ((w + 1) % 4096) := by
  intro g hg
  cases fade with
  | none => simp [dropFade] at hg
  | some f =>
    obtain ⟨h1, -, h3, h4⟩ := hf f rfl
    simp only [dropFade, Option.map_some] at hg
    split at hg
    · simp at hg
    · cases hg
      exact ⟨Head.advance_ok h1 ratio, by dsimp only; omega, h3, h4⟩

/-- What holds of a channel's heads: the active head's lag within 96..1536, the crossfade under its law (R77, R85). -/
abbrev Heads.Ok (w : Nat) (h : Heads) : Prop :=
  (h.active.Ok w ∧ 96 ≤ h.active.lag ∧ h.active.lag ≤ 1536) ∧ ∀ f ∈ h.fade, f.Ok w

/-- Steps 1 to 4 of R79 keep a channel's heads under their law. -/
theorem moveHeads_ok {w ratio tp xfade : Nat} {a : Head} {fade : Option Crossfade}
    (ha : a.Ok w ∧ 96 ≤ a.lag ∧ a.lag ≤ 1536) (hf : ∀ f ∈ fade, f.Ok w) (hr : 2048 ≤ ratio ∧ ratio ≤ 32768)
    (htp : 34 ≤ tp ∧ tp ≤ 686) (hx : 32 ≤ xfade ∧ xfade ≤ 512) :
    (moveHeads ratio tp xfade a fade).Ok ((w + 1) % 4096) := by
  have hadv := Head.advance_ok ha.1 ratio
  have hlag := Head.advance_lag ha.1.2.1 hr.1 hr.2
  unfold moveHeads
  dsimp only
  split
  · next back hb =>
    have hl := spliceJump_lands (by omega) hb
    refine ⟨⟨Head.jump_ok hadv back, ?_⟩, ?_⟩
    · simp only [Head.jump]
      omega
    · rintro _ ⟨⟩
      exact ⟨hadv, by dsimp only; omega, hx, by dsimp only; omega⟩
  · next hn =>
    refine ⟨⟨hadv, spliceJump_none hn⟩, fun g hg => ?_⟩
    obtain ⟨f, hfd, hnext⟩ := Option.bind_eq_some_iff.mp hg
    exact Crossfade.next_ok (dropFade_advance_ok hf f hfd) hnext

theorem placedHead_ok {w : Nat} (hw : w < 4096) : (placedHead w).Ok w ∧ 96 ≤ (placedHead w).lag ∧ (placedHead w).lag ≤ 1536 := by
  refine ⟨⟨Nat.mod_lt _ (by decide), (by decide : 0 < 8192), ?_⟩, (by decide : 96 ≤ (480 : Int) ∧ (480 : Int) ≤ 1536)⟩
  simp only [placedHead]
  omega

/-! ### Channels (R91 to R96) -/

theorem Channel.ok_iff {w : Nat} {c : Channel} :
    c.Ok w = true ↔ (c.active = none ↔ c.env = .closed) ∧ (c.active = none → c.fade = none) ∧
      (∀ a ∈ c.active, a.Ok w ∧ 96 ≤ a.lag ∧ a.lag ≤ 1536) ∧ (∀ f ∈ c.fade, f.Ok w) ∧
      (0 ≤ c.level ∧ c.level ≤ 1) ∧ (c.env = .closed → c.level = 0) ∧ (c.env = .open → c.level = 1) ∧
      (2048 ≤ c.ratio ∧ c.ratio ≤ 32768) := by
  simp only [Channel.Ok, decide_eq_true_eq]

/-- The level and the ratio of a channel under its law, apart from its heads (R91). -/
structure Channel.LevelOk (c : Channel) : Prop where
  nonneg : 0 ≤ c.level
  le_one : c.level ≤ 1
  opened : c.env = .open → c.level = 1
  ratio : 2048 ≤ c.ratio ∧ c.ratio ≤ 32768

/-- A channel that speaks, its heads and its level under their laws, is under its law. -/
theorem Channel.ok_of_heads {w : Nat} {c : Channel} {a : Head} (he : c.env ≠ .closed) (ha : c.active = some a)
    (hh : a.Ok w ∧ 96 ≤ a.lag ∧ a.lag ≤ 1536)
    (hf : ∀ f ∈ c.fade, f.Ok w) (hl : c.LevelOk) : c.Ok w = true := by
  refine Channel.ok_iff.mpr ⟨by simp [ha, he], by simp [ha], ?_, hf, ⟨hl.nonneg, hl.le_one⟩, fun h => absurd h he,
    hl.opened, hl.ratio⟩
  rw [ha]
  rintro _ ⟨⟩
  exact hh

/-- The step of the level keeps a channel that speaks under its law, or closes it (R94, R95). -/
theorem Channel.stepLevel_ok {w : Nat} {c : Channel} {a : Head} (he : c.env ≠ .closed) (ha : c.active = some a)
    (hh : a.Ok w ∧ 96 ≤ a.lag ∧ a.lag ≤ 1536)
    (hf : ∀ f ∈ c.fade, f.Ok w) (hl : c.LevelOk) (attack release : Nat) :
    (c.stepLevel attack release).Ok w = true := by
  obtain ⟨h0, h1, h2, h3⟩ := hl
  unfold Channel.stepLevel
  split
  · next hopen =>
    dsimp only
    have hstep : (0 : Rat) ≤ 1 / (256 * (attack : Rat)) := by positivity
    split
    · exact Channel.ok_of_heads (by simp) ha hh hf ⟨by simp, by simp, fun _ => rfl, h3⟩
    · next hlt =>
      exact Channel.ok_of_heads he ha hh hf ⟨add_nonneg h0 hstep, (not_le.mp hlt).le, fun e => by simp [hopen] at e, h3⟩
  · next hclosing =>
    dsimp only
    have hstep : (0 : Rat) ≤ 1 / (256 * (release : Rat)) := by positivity
    split
    · exact Channel.ok_iff.mpr ⟨by simp, by simp, by simp, by simp, by simp, by simp, by simp, h3⟩
    · next hpos =>
      exact Channel.ok_of_heads he ha hh hf
        ⟨(not_le.mp hpos).le, (sub_le_self _ hstep).trans h1, fun e => by simp [hclosing] at e, h3⟩
  · exact Channel.ok_of_heads he ha hh hf ⟨h0, h1, h2, h3⟩

/-- What acting on a command leaves: a channel CLOSED as it was, one opened with a placed head, or one with its heads as they
were (R92, R93). -/
theorem Channel.act_cases (c : Channel) (w : Nat) :
    (c.env = .closed ∧ c.act w = c) ∨
      (c.env = .closed ∧ c.act w = { c with env := .opening, active := some (placedHead w), fade := none }) ∨
      (c.env ≠ .closed ∧ (c.act w).env ≠ .closed ∧ (c.act w).active = c.active ∧ (c.act w).fade = c.fade ∧
        (c.act w).level = c.level ∧ (c.act w).ratio = c.ratio ∧ ((c.act w).env = .open → c.env = .open)) := by
  cases he : c.env <;> cases hc : c.command <;> simp [Channel.act, he, hc]

/-- A channel that is CLOSED, at a place of the ring it does not read, is under its law. -/
theorem Channel.ok_of_closed {w w' : Nat} {c : Channel} (hc : c.Ok w = true) (he : c.env = .closed) : c.Ok w' = true := by
  obtain ⟨h1, h2, -, -, h5, h6, h7, h8⟩ := Channel.ok_iff.mp hc
  have ha := h1.mpr he
  have hf := h2 ha
  exact Channel.ok_iff.mpr ⟨h1, h2, by simp [ha], by simp [hf], h5, h6, h7, h8⟩

/-- The channel that a sample event runs, as `Channel.act_cases` says of one that acts on its command. -/
theorem Channel.actIf_cases (c : Channel) (first : Bool) (w : Nat) :
    let c1 := if first then c.act w else c
    (c.env = .closed ∧ c1 = c) ∨
      (c.env = .closed ∧ c1 = { c with env := .opening, active := some (placedHead w), fade := none }) ∨
      (c.env ≠ .closed ∧ c1.env ≠ .closed ∧ c1.active = c.active ∧ c1.fade = c.fade ∧ c1.level = c.level ∧
        c1.ratio = c.ratio ∧ (c1.env = .open → c.env = .open)) := by
  cases first with
  | true => exact c.act_cases w
  | false =>
    by_cases he : c.env = .closed
    · exact .inl ⟨he, rfl⟩
    · exact .inr (.inr ⟨he, he, rfl, rfl, rfl, rfl, id⟩)

section
variable (ring : List (Nat × Sample)) (tp xfade attack release : Nat)

/-- A channel whose head was placed at this event: the level steps and the signal is formed (R93). -/
theorem Channel.run_placed {c : Channel} {a : Head} (ha : c.active = some a) :
    (c.run true ring tp xfade attack release).channel = c.stepLevel attack release := by
  have hc : { c with active := some a, fade := c.fade } = c := by rw [← ha]
  simp only [Channel.run, ha, if_true, hc]

/-- A channel that goes on: its heads move, then the level steps (R79). -/
theorem Channel.run_moved {c : Channel} {a : Head} (ha : c.active = some a) :
    (c.run false ring tp xfade attack release).channel =
      { c with active := some (moveHeads c.ratio tp xfade a c.fade).active,
               fade := (moveHeads c.ratio tp xfade a c.fade).fade }.stepLevel attack release := by
  simp [Channel.run, ha]

/-- A sample event keeps a channel under its law, at the new newest sample (R79). -/
theorem Channel.sample_ok {w : Nat} {c : Channel} (hc : c.Ok w = true) (first : Bool) (htp : 34 ≤ tp ∧ tp ≤ 686)
    (hx : 32 ≤ xfade ∧ xfade ≤ 512) :
    (c.sample first ring ((w + 1) % 4096) tp xfade attack release).channel.Ok ((w + 1) % 4096) = true := by
  obtain ⟨h1, -, h3, h4, h5, h6, h7, h8⟩ := Channel.ok_iff.mp hc
  have hw : (w + 1) % 4096 < 4096 := Nat.mod_lt _ (by decide)
  unfold Channel.sample
  rcases c.actIf_cases first ((w + 1) % 4096) with ⟨he, e⟩ | ⟨he, e⟩ | ⟨he, he1, ea, ef, el, er, eo⟩
  · rw [e]
    simp only [he, if_true]
    exact Channel.ok_of_closed hc he
  · rw [e]
    simp only [he, decide_true, reduceCtorEq, if_false]
    rw [Channel.run_placed ring tp xfade attack release rfl]
    refine Channel.stepLevel_ok (c := { c with env := .opening, active := some (placedHead _), fade := none }) (by simp) rfl
      (placedHead_ok hw) (by simp) ⟨h5.1, h5.2, fun h => ?_, h8⟩ attack release
    cases h
  · obtain ⟨a, ha⟩ : ∃ a, c.active = some a := Option.ne_none_iff_exists'.mp fun hn => he (h1.mp hn)
    dsimp only at *
    generalize (if first then c.act ((w + 1) % 4096) else c) = c1 at *
    have hh := moveHeads_ok (h3 a ha) h4 h8 htp hx
    rw [if_neg he1, decide_eq_false he, Channel.run_moved ring tp xfade attack release (ea.trans ha), ef, er]
    exact Channel.stepLevel_ok (c := { c1 with active := some _, fade := _, ratio := c.ratio }) he1 rfl hh.1 hh.2 ⟨el ▸ h5.1, el ▸ h5.2, fun h => el ▸ h7 (eo h), h8⟩ attack release

end

/-! ### The engine (R75 to R78) -/

theorem Four.all_toList {α : Type} {p : α → Bool} {f : Four α} : f.toList.all p = true ↔ f.All (fun x => p x = true) := by
  simp [Four.toList, Four.All]

/-- A sample event keeps the engine under its law (R75, R79). -/
theorem Engine.sample_ok {g : Engine} (hg : g.Ok) (x : Sample) (first : Bool) {last : Option Nat}
    (hl : ∀ p ∈ last, PeriodOk p) : (g.sample x first last).engine.Ok := by
  obtain ⟨h1, h2, h3, h4, h5, h6⟩ := hg
  have hw : (g.w + 1) % 4096 < 4096 := Nat.mod_lt _ (by decide)
  have hc : ∀ c : Channel, c.Ok g.w = true →
      (c.sample first (ringWrite g.ring ((g.w + 1) % 4096) x) ((g.w + 1) % 4096) (splicePeriod last) g.crossfade g.attack
        g.release).channel.Ok ((g.w + 1) % 4096) = true :=
    fun c h => Channel.sample_ok _ _ _ _ _ h first (splicePeriod_mem hl) h4
  obtain ⟨c0, c1, c2, c3⟩ := Four.all_toList.mp h3
  exact ⟨ringWrite_wf x h1 hw, hw, Four.all_toList.mpr ⟨hc _ c0, hc _ c1, hc _ c2, hc _ c3⟩, h4, h5, h6⟩

theorem Channel.setRatio_ok {w : Nat} {c : Channel} (hc : c.Ok w = true) {v : PlanVoice} (hv : v.Ok) :
    Channel.Ok w { c with ratio := v.ratio, command := v.command } = true := by
  obtain ⟨h1, h2, h3, h4, h5, h6, h7, -⟩ := Channel.ok_iff.mp hc
  exact Channel.ok_iff.mpr ⟨h1, h2, h3, h4, h5, h6, h7, hv.2.2⟩

/-- The take-up at a frame completion keeps the engine under its law (R71, R78). -/
theorem Engine.takeUp_ok {g : Engine} (hg : g.Ok) {p : Planner} (hp : p.voices.All PlanVoice.Ok) {sc : Scene}
    (hsc : sc.Ok = true) : (g.takeUp p sc).Ok := by
  obtain ⟨h1, h2, h3, -⟩ := hg
  obtain ⟨c0, c1, c2, c3⟩ := Four.all_toList.mp h3
  obtain ⟨p0, p1, p2, p3⟩ := hp
  obtain ⟨-, -, -, -, -, -, hx, -, -, hat, hrel, -⟩ := Scene.ok_iff.mp hsc
  exact ⟨h1, h2, Four.all_toList.mpr ⟨Channel.setRatio_ok c0 p0, Channel.setRatio_ok c1 p1, Channel.setRatio_ok c2 p2,
    Channel.setRatio_ok c3 p3⟩, hx, hat, hrel⟩

theorem channelAtRest_ok (w : Nat) : channelAtRest.Ok w = true :=
  Channel.ok_iff.mpr ⟨by simp [channelAtRest], by simp [channelAtRest], by simp [channelAtRest], by simp [channelAtRest],
    by simp [channelAtRest], by simp [channelAtRest], by simp [channelAtRest], by decide⟩

theorem engineAtRest_ok (st : EngineState) {sc : Scene} (hsc : sc.Ok = true) : (engineAtRest st sc).Ok := by
  obtain ⟨-, -, -, -, -, -, hx, -, -, hat, hrel, -⟩ := Scene.ok_iff.mp hsc
  have hc := channelAtRest_ok 0
  exact ⟨ringWf_nil, (by decide : 0 < 4096), Four.all_toList.mpr ⟨hc, hc, hc, hc⟩, hx, hat, hrel⟩

/-! ### Every command -/

/-- The laws where tracker, planner and engine do not change. -/
theorem State.audioOk_of_changesOnly {l : List Block} {s t : State} (hs : s.AudioOk) (ht : t.ScenesOk) (h : s.ChangesOnly l t)
    (hl : [Block.tracker, .planner, .engine].all (· ∉ l) = true) : t.AudioOk := by
  simp only [List.all_cons, List.all_nil, Bool.and_eq_true, decide_eq_true_eq, and_true] at hl
  obtain ⟨ht', hp', he'⟩ := hl
  have et : t.tracker = s.tracker := h.2 _ ht'
  have ep : t.planner = s.planner := h.2 _ hp'
  have ee : t.engine = s.engine := h.2 _ he'
  exact ⟨ht, et ▸ hs.2.1, ep ▸ hs.2.2.1, ee ▸ hs.2.2.2⟩

theorem Tracker.atReset_ok {t : Tracker} (ht : t.Ok) (keep : Bool) : (t.atReset keep).Ok := by
  unfold Tracker.atReset
  split
  · exact trackerAtRest_ok ht.1 ht.2.1
  · exact trackerAtRest_ok defaultTrackerSettings_ok (by decide)

/-- A reset leaves every block under its law (R22, R74, R101). -/
theorem State.takeReset_audioOk {s : State} (hs : s.AudioOk) (kind : ResetKind) (high : Bool) (phase : StartPhase) :
    (s.takeReset kind high phase).AudioOk :=
  ⟨State.takeReset_scenesOk hs.1 kind high phase, Tracker.atReset_ok hs.2.1 _, plannerAtRest_ok,
    engineAtRest_ok _ defaultScene_ok⟩

theorem State.takeSample_audioOk {s : State} (hs : s.AudioOk) (x : Sample) : (s.takeSample x).AudioOk := by
  obtain ⟨h1, h2, h3, h4⟩ := hs
  have hlast : ∀ p ∈ s.tracker.record.lastAccepted, PeriodOk p := by
    obtain ⟨-, -, -, -, -, -, -, hla, -, -, -, -, ⟨-, -, hrec⟩, -⟩ := h2
    rw [hrec]
    exact hla
  refine ⟨State.takeSample_scenesOk h1 x, ?_, ?_, ?_⟩
  · simpa [State.takeSample] using Tracker.takeSample_ok h2 x
  · simpa [State.takeSample] using h3
  · simpa [State.takeSample] using Engine.sample_ok h4 x (decide (s.tracker.framePos = 0)) hlast

theorem State.completeFrame_audioOk {s : State} (hs : s.AudioOk) : s.completeFrame.AudioOk := by
  obtain ⟨h1, h2, h3, h4⟩ := hs
  have hsc : s.working.takeFollow.scene.Ok = true := (Working.takeFollow_ok (State.scenesOk_iff.mp h1).1).1
  have hp := Planner.completeFrame_ok h3 hsc s.tracker.completeFrame.record (s.key.view s.working.takeFollow.scene) s.mixer.mode
    (s.engine.channels.map (·.env))
  refine ⟨State.completeFrame_scenesOk h1, ?_, ?_, ?_⟩
  · simpa [State.completeFrame] using Tracker.completeFrame_ok h2
  · simpa [State.completeFrame] using hp
  · simpa [State.completeFrame] using Engine.takeUp_ok h4 hp hsc

/-- The values a clock return gives tracker and planner are under their laws (R22, R74). -/
theorem State.audioReturn_audioOk {s : State} (hs : s.AudioOk) : s.audioReturn.AudioOk :=
  ⟨hs.1, trackerAtRest_ok hs.2.1.1 hs.2.1.2.1, plannerAtRest_ok, hs.2.2.2⟩

theorem State.clockReturn_audioOk {s : State} (hs : s.AudioOk) : s.clockReturn.AudioOk :=
  have h := State.audioReturn_audioOk hs
  ⟨h.1, h.2.1, h.2.2.1, engineAtRest_ok _ hs.1.1⟩

theorem State.declarePresent_audioOk {s : State} (hs : s.AudioOk) : s.declarePresent.AudioOk := by
  have h1 : State.AudioOk { s with port := { s.port with clock := .present, qualifying := 0 } } := hs
  unfold State.declarePresent
  dsimp only
  split
  · exact State.clockReturn_audioOk h1
  · exact State.audioReturn_audioOk h1

theorem State.startEngine_audioOk {s : State} (hs : s.AudioOk) (ramFault : Bool) : (s.startEngine ramFault).AudioOk := by
  have zeroed (st : EngineState) : State.AudioOk { s with engine := { s.engine with ring := [], state := st } } := by
    obtain ⟨h1, h2, h3, -, h4⟩ := hs
    exact ⟨h1, h2, h3, ringWf_nil, h4⟩
  unfold State.startEngine
  split
  · exact zeroed _
  · split
    · exact State.clockReturn_audioOk hs
    · exact zeroed _

theorem State.phraseStartAtHead_audioOk {s : State} (hs : s.AudioOk) : s.phraseStartAtHead.AudioOk := by
  refine ⟨State.phraseStartAtHead_scenesOk hs.1, ?_⟩
  rw [s.phraseStartAtHead_frame]
  exact hs.2

theorem execMeasurementWindowEnd_audioOk {s t : State} (hs : s.AudioOk) (h : execMeasurementWindowEnd s = .next t) :
    t.AudioOk := by
  cases h
  have h1 : State.AudioOk { s with port := s.port.nextWindow } := hs
  split
  · exact hs
  · dsimp only
    repeat' split
    · exact h1
    · exact h1
    · exact h1
    · exact h1
    · exact h1
    · exact State.declarePresent_audioOk h1

theorem execSelfCheckEnd_audioOk {ramFault storeUnreadable : Bool} {s t : State} (hs : s.AudioOk)
    (h : execSelfCheckEnd ramFault storeUnreadable s = .next t) : t.AudioOk := by
  cases h
  split
  · have h1 : State.AudioOk (if storeUnreadable then s.storeUnreadable else s) := by
      split
      · exact hs
      · exact hs
    exact State.startEngine_audioOk h1 ramFault
  · exact hs

theorem tuningWork_audioOk {s : State} (hs : s.AudioOk) (a : Byte × Byte) : (tuningWork a s).1.AudioOk := by
  obtain ⟨h1, ⟨hc, -, h2⟩, h3⟩ := hs
  exact ⟨h1, ⟨hc, clampNat_mem (by decide) _, h2⟩, h3⟩

theorem trackerWork_audioOk {s : State} (hs : s.AudioOk) (p : List Byte) : (trackerWork p s).1.AudioOk := by
  obtain ⟨h1, ⟨-, h2⟩, h3⟩ := hs
  exact ⟨h1, ⟨clampSettings_ok _ _ _ _ _ _ _, h2⟩, h3⟩

/-- A dispatched request whose work keeps the laws of the audio blocks. -/
theorem dispatch_audioOk {α : Type} {kind seq : Byte} {payload : List Byte} {parse : List Byte → Option α}
    {work : α → State → State × Reply} {s : State} (hs : s.AudioOk) (hwork : ∀ a u, State.AudioOk u → (work a u).1.AudioOk) :
    (dispatch kind seq payload parse work s).AudioOk :=
  dispatch_keeps (P := State.AudioOk) (fun _ _ h => h) hwork hs

/-- Every command keeps the laws of scene records, tracker, planner and Shift Engine. -/
theorem exec_audioOk {c : Instr} {s t : State} (hs : s.AudioOk) (h : exec c s = .next t) : t.AudioOk := by
  have hsc := exec_scenesOk hs.1 h
  cases c with
  | powerOnReset high => cases h; exact State.takeReset_audioOk hs _ _ _
  | pinReset high => cases h; exact State.takeReset_audioOk hs _ _ _
  | softReset high =>
    cases h
    split
    · exact State.takeReset_audioOk hs _ _ _
    · exact hs
  | selfCheckEnd _ _ => exact execSelfCheckEnd_audioOk hs h
  | sampleEvent x =>
    cases h
    split
    · unfold State.sampleEvent
      split
      · exact State.completeFrame_audioOk (State.takeSample_audioOk hs x)
      · exact State.takeSample_audioOk hs x
    · exact hs
  | frameCompletion x =>
    cases h
    split
    · exact State.completeFrame_audioOk (State.takeSample_audioOk hs x)
    · exact hs
  | phraseStart =>
    cases h
    split
    · exact State.phraseStartAtHead_audioOk (by exact hs)
    · exact hs
  | clockGapTimeout =>
    cases h
    split
    · exact hs
    · dsimp only
      split <;> exact hs
  | measurementWindowEnd => exact execMeasurementWindowEnd_audioOk hs h
  | setTuning _ _ => cases h; exact dispatch_audioOk hs fun a _ hu => tuningWork_audioOk hu a
  | setTracker _ _ => cases h; exact dispatch_audioOk hs fun a _ hu => trackerWork_audioOk hu a
  | _ => exact State.audioOk_of_changesOnly hs hsc (exec_changesOnly h) rfl

/-- A step keeps what every command keeps of the state with the rest of the queue. -/
theorem step_keeps {P : State → Prop} (hpending : ∀ (s : State) (rest : List Instr), P s → P { s with pending := rest })
    (hexec : ∀ c s t, P s → exec c s = .next t → P t) {s t : State} (hs : P s) (h : step s = .next t) : P t := by
  unfold step at h
  split at h
  · cases h
    exact hs
  · exact hexec _ _ _ (hpending _ _ hs) h

/-- Settles O59: the laws hold of the state with the rest of the queue, and every command keeps them. -/
theorem audioLawsKept : Obligations.AudioLawsKept := by
  unfold Obligations.AudioLawsKept
  exact fun s t hs h => step_keeps (P := State.AudioOk) (fun _ _ h => h) (fun _ _ _ => exec_audioOk) hs h

end Sys2Proof.Machine
end

section
/-! Proofs: sample events, frame completions and measurement windows, block by block (chapters 1 to 5). -/

namespace Sys2Proof.Machine

/-! ### A sample event, block by block -/

section
variable (s : State) (x : Sample)

/-- The engine's work at a sample event. -/
def State.engineStep : EngineStep := s.engine.sample x (s.tracker.framePos = 0) s.tracker.record.lastAccepted

/-- The mixer's work at a sample event. -/
def State.mixStep : MixStep := s.mixer.sample x.toInt (s.engineStep x).signals

@[simp] theorem State.takeSample_tracker : (s.takeSample x).tracker = s.tracker.takeSample x := by
  simp [State.takeSample]
@[simp] theorem State.takeSample_planner : (s.takeSample x).planner = s.planner := by
  simp [State.takeSample]
@[simp] theorem State.takeSample_key : (s.takeSample x).key = s.key := by
  simp [State.takeSample]
@[simp] theorem State.takeSample_engine : (s.takeSample x).engine = (s.engineStep x).engine := by
  simp [State.takeSample, State.engineStep]
@[simp] theorem State.takeSample_mixer : (s.takeSample x).mixer = (s.mixStep x).mixer := by
  simp [State.takeSample, State.mixStep, State.engineStep]
@[simp] theorem State.takeSample_port : (s.takeSample x).port = { s.port with formed := some (s.mixStep x).out } := by
  simp [State.takeSample, State.mixStep, State.engineStep]
theorem State.takeSample_notices :
    (s.takeSample x).notices =
      s.notices.raised [((s.engineStep x).cut, .shortCrossfade), ((s.mixStep x).clip, .clip)] := by
  simp [State.takeSample, State.mixStep, State.engineStep, State.raiseIf_notices, Notices.raised]

end

/-- Settles O8: each block's part of the sample event is said by its own lemma. -/
theorem sampleEventsRun : Obligations.SampleEventsRun := by
  unfold Obligations.SampleEventsRun
  refine ⟨fun x s hrun hpos hring => ⟨s.takeSample x, ?_, ?_, ?_, ?_⟩, fun x s hstall => ⟨?_, ?_⟩⟩
  · have hne : s.tracker.framePos ≠ 255 := by omega
    simp only [exec, execSampleEvent, State.sampleEvent, hrun, hne, if_true, if_false]
  · rw [State.takeSample_tracker, Tracker.takeSample, Nat.mod_eq_of_lt (by omega)]
  · dsimp only
    rw [State.takeSample_engine, State.takeSample_mixer, State.takeSample_port, State.takeSample_notices]
    exact ⟨fun i => ringRead_write _ x hring i, rfl, rfl, rfl, rfl⟩
  · exact (s.takeSample_frame x).trans rfl
  · simp only [exec, execSampleEvent, hstall, if_false]
  · simp only [exec, execFrameCompletion, hstall, false_and, if_false]

/-! ### Pitch-class sets (2.2) -/

/-- The bits a fold of powers of two sets. -/
theorem testBit_foldl_pow (l : List Nat) (acc c : Nat) :
    (l.foldl (fun s c => s ||| 2 ^ c) acc).testBit c = (acc.testBit c || decide (c ∈ l)) := by
  induction l generalizing acc with
  | nil => simp
  | cons a l ih => simp [ih, Nat.testBit_or, Nat.testBit_two_pow, Bool.or_assoc, eq_comm (a := a)]

theorem pitchSet_getLsbD {l : List Nat} {c : Nat} (hc : c < 12) : (pitchSet l).getLsbD c = decide (c ∈ l) := by
  rw [pitchSet, BitVec.getLsbD_ofNat, testBit_foldl_pow]
  simp [hc]

/-- A class of a shifted set is a member of the set, shifted (R37). -/
theorem shiftSet_getLsbD {s : PitchSet} {r c : Nat} (hc : c < 12) :
    (shiftSet s r).getLsbD c = true ↔ ∃ i, i < 12 ∧ s.getLsbD i = true ∧ c = (i + r) % 12 := by
  have hmem : (shiftSet s r).getLsbD c = s.getLsbD ((c + 12 - r % 12) % 12) := by
    rw [shiftSet, pitchSet_getLsbD hc]
    simp [hc, memShifted]
  rw [hmem]
  constructor
  · exact fun h => ⟨_, Nat.mod_lt _ (by decide), h, by omega⟩
  · rintro ⟨i, hi, h, rfl⟩
    have e : ((i + r) % 12 + 12 - r % 12) % 12 = i := by omega
    rw [e]
    exact h

/-! ### The planning view (R37, R39) -/

theorem KeyContext.scaleSet_eq (k : KeyContext) {i : Nat} (h : i < 16) : k.scaleSet i = k.scales[i] := by
  simp [KeyContext.scaleSet, h]

theorem KeyContext.template_eq (k : KeyContext) {t : Nat} (h : t < 12) : k.template t = k.templates[t] := by
  simp [KeyContext.template, h]

theorem KeyContext.view_context (k : KeyContext) (sc : Scene) : (k.view sc).context = k.context := by
  unfold KeyContext.view
  split <;> rfl

theorem KeyContext.view_chordTones (k : KeyContext) (sc : Scene) : (k.view sc).chordTones = k.chordTones := by
  unfold KeyContext.view
  split <;> rfl

theorem KeyContext.view_scaleSet (k : KeyContext) (sc : Scene) : (k.view sc).scaleSet = k.scaleSet (k.view sc).scaleIndex := by
  unfold KeyContext.view
  split <;> rfl

/-- The key comes from the scene where it is its source, or where there is no chord (R39). -/
theorem KeyContext.view_scene {k : KeyContext} {sc : Scene} (h : sc.keySource = .scene ∨ k.context = .none) :
    (k.view sc).fromChord = false ∧ (k.view sc).tonic = sc.tonic ∧ (k.view sc).scaleIndex = sc.scaleIndex := by
  unfold KeyContext.view
  split
  · next hks hc =>
    rcases h with h | h
    · rw [h] at hks
      cases hks
    · simp [h, ChordContext.chord?] at hc
  · exact ⟨rfl, rfl, rfl⟩

/-- The key comes from the chord where it is its source and there is one (R39). -/
theorem KeyContext.view_chord {k : KeyContext} {sc : Scene} {r t : Nat} (hks : sc.keySource = .chord)
    (hc : k.context.chord? = some (r, t)) :
    (k.view sc).fromChord = true ∧ (k.view sc).tonic = r ∧ (k.view sc).scaleIndex = (k.template t).scaleIndex := by
  simp [KeyContext.view, hks, hc]

/-- The view of a unit under a scene is the one it publishes (R39). -/
theorem KeyContext.view_publishes (k : KeyContext) (sc : Scene) : k.Publishes sc (k.view sc) := by
  refine ⟨k.view_context sc, KeyContext.view_scene, fun h => ?_, fun h => ?_, fun r t ht h => ?_⟩
  · rw [k.view_scaleSet, k.scaleSet_eq h]
  · simp [KeyContext.view_chordTones, KeyContext.chordTones, h, ChordContext.chord?]
  · have hc : k.context.chord? = some (r, t) := by
      rcases h with h | h <;> rw [h] <;> rfl
    refine ⟨fun hks => ?_, shiftSet (k.templates[t]).intervals r, ?_, fun c => shiftSet_getLsbD⟩
    · rw [← k.template_eq ht]
      exact KeyContext.view_chord hks hc
    · rw [k.view_chordTones, KeyContext.chordTones, hc, ← k.template_eq ht]
      rfl

/-! ### A frame completion, block by block -/

section
variable (s : State)

/-- The planner after a frame completion. -/
def State.plannerAfter : Planner :=
  s.planner.completeFrame s.tracker.completeFrame.record (s.key.view s.working.takeFollow.scene) s.working.takeFollow.scene
    s.mixer.mode (s.engine.channels.map (·.env))

@[simp] theorem State.completeFrame_tracker : s.completeFrame.tracker = s.tracker.completeFrame := by
  simp [State.completeFrame]
@[simp] theorem State.completeFrame_planner : s.completeFrame.planner = s.plannerAfter := by
  simp [State.completeFrame, State.plannerAfter]
@[simp] theorem State.completeFrame_engine :
    s.completeFrame.engine = s.engine.takeUp s.plannerAfter s.working.takeFollow.scene := by
  simp [State.completeFrame, State.plannerAfter]
@[simp] theorem State.completeFrame_mixer : s.completeFrame.mixer = s.mixer.takeUp s.working.takeFollow.scene := by
  simp [State.completeFrame]
@[simp] theorem State.completeFrame_port : s.completeFrame.port = s.port := by
  simp [State.completeFrame]
theorem State.completeFrame_notices :
    s.completeFrame.notices =
      s.notices.raised
        [(decide (s.tracker.completeFrame.record.event = .phraseStart), .phraseStart),
          (decide (s.tracker.completeFrame.record.event = .phraseEnd), .phraseEnd),
          (s.plannerAfter.anyOutOfReach, .outOfReach)] := by
  simp [State.completeFrame, State.raiseIf_notices, Notices.raised, State.plannerAfter]

end

theorem Notices.raised_append (u : Notices) (cs ds : List (Bool × Source)) : (u.raised cs).raised ds = u.raised (cs ++ ds) :=
  (List.foldl_append ..).symm

/-- Settles O9: the sample's work by the lemmas of a sample event, then the frame completion's on the state it leaves. -/
theorem frameCompletionsRun : Obligations.FrameCompletionsRun := by
  unfold Obligations.FrameCompletionsRun
  intro x s hrun hpos
  refine ⟨(s.takeSample x).completeFrame, s.key.view s.working.takeFollow.scene, ?_, ?_, ?_, ?_, ?_, ?_, ?_⟩
  · simp only [exec, execFrameCompletion, hrun, hpos, and_self, if_true]
  · simp only [exec, execSampleEvent, State.sampleEvent, hrun, hpos, if_true]
  · rw [State.completeFrame_tracker, State.takeSample_tracker, Tracker.takeSample, hpos]
    rfl
  · rw [State.completeFrame_working, State.takeSample_working]
    rfl
  · rw [State.completeFrame_working, State.takeSample_working]
    exact s.key.view_publishes _
  · dsimp only
    have hne : (decide (s.tracker.framePos = 0)) = false := by rw [hpos]; rfl
    rw [State.completeFrame_notices, State.takeSample_notices, Notices.raised_append, State.completeFrame_tracker,
      State.completeFrame_planner, State.completeFrame_engine, State.completeFrame_mixer, State.completeFrame_port,
      State.completeFrame_working]
    simp only [State.takeSample_engine, State.takeSample_mixer, State.takeSample_port, State.takeSample_working,
      State.plannerAfter, State.takeSample_planner, State.takeSample_key, State.engineStep, State.mixStep, hne]
    refine ⟨fun hring i => ringRead_write _ x hring i, rfl, ?_, rfl, rfl, rfl⟩
    rw [← hrun]
    rfl
  · exact (s.completeFrame_takeSample_changesOnly x).eq_patch.trans rfl

/-! ### Measurement windows (R104 to R106) -/

/-- A RUNNING engine becomes STALLED by CLOCK, and a STALLED one keeps its cause (R76, R99). -/
theorem stallByClock_eq (st : EngineState) :
    (if st = .running then .stalled .clock else st) = if st = .stalled .ramFault then .stalled .ramFault else .stalled .clock := by
  rcases st with _ | _ | _ <;> rfl

theorem countInRange_iff {n : Nat} : countInRange n = true ↔ 470 ≤ n ∧ n ≤ 490 := by
  simp [countInRange]

/-- Settles O27: the window's end by the clock's state, the count, the gap and the qualifying count. -/
theorem measurementWindows : Obligations.MeasurementWindows := by
  unfold Obligations.MeasurementWindows
  intro s hs
  dsimp only
  simp only [exec, execMeasurementWindowEnd, hs, if_false]
  refine ⟨fun hc hf => ?_, fun hc hf => ?_, fun hc hf => ?_, fun hc hf hg => ?_, fun hc hf hg hq => ?_, fun hc hf hg hq => ?_⟩
  · rw [if_pos hc, if_pos (countInRange_iff.mpr hf)]
    rfl
  · rw [if_pos hc, if_neg (mt countInRange_iff.mp hf), ← stallByClock_eq]
    rfl
  all_goals have hn : ¬s.port.clock = .present := by rw [hc]; decide
  · simp only [hn, mt countInRange_iff.mp hf, Bool.not_false, if_true, if_false]
    rfl
  all_goals have hr := countInRange_iff.mpr hf
  · simp only [hn, hr, hg, Bool.not_true, Bool.false_eq_true, if_true, if_false]
    rfl
  · simp only [hn, hr, hg, hq, Bool.not_true, Bool.false_eq_true, if_true, if_false]
    rfl
  · simp only [hn, hr, hg, hq, Bool.not_true, Bool.false_eq_true, if_false, (by decide : ¬1 + 1 < 2)]
    unfold State.declarePresent
    dsimp only
    split <;> rfl

end Sys2Proof.Machine
end

section
/-! Proofs: the settings requests (R6, R8, R30, R32, R38, R112) and the state after reset. -/

namespace Sys2Proof.Machine

/-! ### Bytes and clamps -/

theorem clampNat_eq_max {lo hi : Nat} (h : lo ≤ hi) (x : Nat) : clampNat lo hi x = max lo (min hi x) := by
  unfold clampNat
  split_ifs <;> omega

theorem clampInt_eq_max {lo hi : Int} (h : lo ≤ hi) (x : Int) : clampInt lo hi x = max lo (min hi x) := by
  unfold clampInt
  split_ifs <;> omega

/-- The value of two bytes, most significant first (R166). -/
theorem word16_toNat (hi lo : Byte) : (word16 hi lo).toNat = 256 * hi.toNat + lo.toNat := by
  have hlo : lo.toNat < 2 ^ 8 := lo.isLt
  rw [word16, BitVec.toNat_append, ← Nat.shiftLeft_add_eq_or_of_lt hlo, Nat.shiftLeft_eq]
  omega

/-- A number of two bytes, most significant first (R166). -/
theorem twoBytesNat_eq {n : Nat} (h : n < 65536) : twoBytesNat n = [byteOfNat (n / 256), byteOfNat (n % 256)] := by
  have e1 : (BitVec.ofNat 16 n).extractLsb' 8 8 = byteOfNat (n / 256) := by
    apply BitVec.eq_of_toNat_eq
    simp only [byteOfNat, BitVec.extractLsb'_toNat, BitVec.toNat_ofNat, Nat.shiftRight_eq_div_pow]
    omega
  have e2 : (BitVec.ofNat 16 n).extractLsb' 0 8 = byteOfNat (n % 256) := by
    apply BitVec.eq_of_toNat_eq
    simp only [byteOfNat, BitVec.extractLsb'_toNat, BitVec.toNat_ofNat, Nat.shiftRight_zero]
    omega
  rw [twoBytesNat, twoBytes, e1, e2]

/-- A taken request of a legal length, from the outcome of its work on the state without its entry. -/
theorem exec_answers {c : Instr} {α : Type} {kind seq : Byte} {payload : List Byte} {parse : List Byte → Option α}
    {work : α → State → State × Reply} {s : State} {rest : List FifoEntry}
    (hc : exec c s = .next (dispatch kind seq payload parse work s)) (h : s.Takes (.frame kind seq payload) rest)
    (t : State) {a : α} (r : Reply) (ha : parse payload = some a)
    (hw : work a { s with link := { s.link with fifo := rest } } = ({ t with link := { s.link with fifo := rest } }, r)) :
    exec c s = .next (State.answered { t with link := s.link } rest (replyTo kind seq r.code r.payload)) := by
  obtain ⟨hp, hs, hr, hf⟩ := h
  rw [hc, dispatch_taken hp hs hr hf ha, hw]
  rfl

theorem exec_setEngineMode (seq : Byte) (p : List Byte) (s : State) :
    exec (.setEngineMode seq p) s = .next (dispatch 0x04 seq p onePayload engineModeWork s) := rfl
theorem exec_setTuning (seq : Byte) (p : List Byte) (s : State) :
    exec (.setTuning seq p) s = .next (dispatch 0x10 seq p twoPayload tuningWork s) := rfl
theorem exec_setTracker (seq : Byte) (p : List Byte) (s : State) :
    exec (.setTracker seq p) s = .next (dispatch 0x11 seq p (lengthPayload 9) trackerWork s) := rfl
theorem exec_setScale (seq : Byte) (p : List Byte) (s : State) :
    exec (.setScale seq p) s = .next (dispatch 0x22 seq p threePayload setScaleWork s) := rfl
theorem exec_setTemplate (seq : Byte) (p : List Byte) (s : State) :
    exec (.setTemplate seq p) s = .next (dispatch 0x23 seq p fourPayload setTemplateWork s) := rfl
theorem exec_setChordPolicy (seq : Byte) (p : List Byte) (s : State) :
    exec (.setChordPolicy seq p) s = .next (dispatch 0x24 seq p onePayload chordPolicyWork s) := rfl

theorem setIfInBounds_eq_set {α : Type} {n : Nat} (v : Vector α n) {i : Nat} (h : i < n) (x : α) :
    v.setIfInBounds i x = v.set i x := by
  ext j hj
  simp [Vector.getElem_set, Vector.getElem_setIfInBounds]

/-! ### SET ENGINE MODE, SET CHORD POLICY, SET TUNING, SET SCALE, SET TEMPLATE -/

section
variable {seq a b c d : Byte} {rest : List FifoEntry} {s : State}

theorem setEngineMode_stores (h : s.Takes (.frame 0x04 seq [a]) rest) (ha : a = 0 ∨ a = 1) :
    exec (.setEngineMode seq [a]) s = .next ({ s with
      mixer := { s.mixer with mode := if a = 1 then .bypass else .run } }.answered rest (replyTo 0x04 seq .ok [a])) := by
  rcases ha with rfl | rfl
  · exact exec_answers (exec_setEngineMode ..) h { s with mixer := { s.mixer with mode := .run } } (.ok [0]) rfl rfl
  · exact exec_answers (exec_setEngineMode ..) h { s with mixer := { s.mixer with mode := .bypass } } (.ok [1]) rfl rfl

theorem setEngineMode_refuses (h : s.Takes (.frame 0x04 seq [a]) rest) (h0 : a ≠ 0) (h1 : a ≠ 1) :
    exec (.setEngineMode seq [a]) s = .next (s.answered rest (replyTo 0x04 seq .badField [])) :=
  exec_answers (exec_setEngineMode ..) h s (.bare .badField) rfl (by rw [engineModeWork, EngineMode.ofByte, if_neg h0, if_neg h1])

theorem setChordPolicy_stores (h : s.Takes (.frame 0x24 seq [a]) rest) (ha : a = 0 ∨ a = 1) :
    exec (.setChordPolicy seq [a]) s = .next ({ s with
      key := { s.key with policy := if a = 1 then .clear else .latch } }.answered rest (replyTo 0x24 seq .ok [a])) := by
  rcases ha with rfl | rfl
  · exact exec_answers (exec_setChordPolicy ..) h { s with key := { s.key with policy := .latch } } (.ok [0]) rfl rfl
  · exact exec_answers (exec_setChordPolicy ..) h { s with key := { s.key with policy := .clear } } (.ok [1]) rfl rfl

theorem setChordPolicy_refuses (h : s.Takes (.frame 0x24 seq [a]) rest) (h0 : a ≠ 0) (h1 : a ≠ 1) :
    exec (.setChordPolicy seq [a]) s = .next (s.answered rest (replyTo 0x24 seq .badField [])) :=
  exec_answers (exec_setChordPolicy ..) h s (.bare .badField) rfl (by rw [chordPolicyWork, ReleasePolicy.ofByte, if_neg h0, if_neg h1])

theorem setTuning_stores (h : s.Takes (.frame 0x10 seq [a, b]) rest) {f : Nat}
    (hf : f = max 4150 (min 4660 (256 * a.toNat + b.toNat))) :
    exec (.setTuning seq [a, b]) s = .next ({ s with tracker := { s.tracker with fRef := f } }.answered rest
      (replyTo 0x10 seq .ok [byteOfNat (f / 256), byteOfNat (f % 256)])) := by
  have e : clampNat 4150 4660 (word16 a b).toNat = f := by rw [clampNat_eq_max (by decide), word16_toNat, hf]
  refine exec_answers (exec_setTuning ..) h { s with tracker := { s.tracker with fRef := f } }
    (.ok [byteOfNat (f / 256), byteOfNat (f % 256)]) (a := (a, b)) rfl ?_
  simp only [tuningWork, e]
  rw [twoBytesNat_eq (by omega)]

theorem setScale_refuses (h : s.Takes (.frame 0x22 seq [a, b, c]) rest) (ha : 15 < a.toNat) :
    exec (.setScale seq [a, b, c]) s = .next (s.answered rest (replyTo 0x22 seq .badField [])) :=
  exec_answers (exec_setScale ..) h s (.bare .badField) (a := (a, b, c)) rfl (if_pos ha)

theorem setScale_stores (h : s.Takes (.frame 0x22 seq [a, b, c]) rest) (ha : a.toNat < 16) :
    exec (.setScale seq [a, b, c]) s = .next ({ s with
      key := { s.key with scales := s.key.scales.set a.toNat (pitchSetOf b c ||| 1) } }.answered rest
        (replyTo 0x22 seq .ok (a :: pitchSetBytes (pitchSetOf b c ||| 1)))) := by
  have e : s.key.setScale a.toNat (pitchSetOf b c) =
      { s.key with scales := s.key.scales.set a.toNat (pitchSetOf b c ||| 1) } := by
    rw [KeyContext.setScale, setIfInBounds_eq_set _ ha]
  refine exec_answers (exec_setScale ..) h
    { s with key := { s.key with scales := s.key.scales.set a.toNat (pitchSetOf b c ||| 1) } }
    (.ok (a :: pitchSetBytes (pitchSetOf b c ||| 1))) (a := (a, b, c)) rfl ?_
  rw [setScaleWork, if_neg (by dsimp only; omega)]
  dsimp only
  rw [e, KeyContext.scaleSet_eq _ ha, Vector.getElem_set_self]

theorem setTemplate_refuses (h : s.Takes (.frame 0x23 seq [a, b, c, d]) rest) (ha : 11 < a.toNat) :
    exec (.setTemplate seq [a, b, c, d]) s = .next (s.answered rest (replyTo 0x23 seq .badField [])) :=
  exec_answers (exec_setTemplate ..) h s (.bare .badField) (a := (a, b, c, d)) rfl (if_pos ha)

theorem setTemplate_stores (h : s.Takes (.frame 0x23 seq [a, b, c, d]) rest) (ha : a.toNat < 12) {x : Template}
    (hx : x = ⟨pitchSetOf b c ||| 1, min 15 d.toNat⟩) :
    exec (.setTemplate seq [a, b, c, d]) s = .next ({ s with
      key := { s.key with templates := s.key.templates.set a.toNat x } }.answered rest
        (replyTo 0x23 seq .ok (a :: x.bytes))) := by
  have ec : clampNat 0 15 d.toNat = min 15 d.toNat := by rw [clampNat_eq_max (by decide), Nat.zero_max]
  have e : s.key.setTemplate a.toNat (pitchSetOf b c) d.toNat = { s.key with templates := s.key.templates.set a.toNat x } := by
    rw [KeyContext.setTemplate, ec, ← hx, setIfInBounds_eq_set _ ha]
  refine exec_answers (exec_setTemplate ..) h { s with key := { s.key with templates := s.key.templates.set a.toNat x } }
    (.ok (a :: x.bytes)) (a := (a, b, c, d)) rfl ?_
  rw [setTemplateWork, if_neg (by dsimp only; omega)]
  dsimp only
  rw [e, KeyContext.template_eq _ ha, Vector.getElem_set_self]

end

/-- Settles O36, request by request. -/
theorem settingsStored : Obligations.SettingsStored := by
  unfold Obligations.SettingsStored
  intro seq a b c d rest s
  exact ⟨fun h => ⟨setEngineMode_stores h, setEngineMode_refuses h⟩,
    fun h => ⟨setChordPolicy_stores h, setChordPolicy_refuses h⟩, fun h => setTuning_stores h rfl,
    fun h => ⟨setScale_refuses h, setScale_stores h⟩, fun h => ⟨setTemplate_refuses h, fun ha => setTemplate_stores h ha rfl⟩⟩

/-- The nine bytes of settings in range (9.5, R166). -/
theorem TrackerSettings.bytes_eq {c : TrackerSettings} (hc : c.Ok) :
    c.bytes = [byteOfNat (c.lowHz / 256), byteOfNat (c.lowHz % 256), byteOfNat (c.highHz / 256), byteOfNat (c.highHz % 256),
      BitVec.ofInt 8 c.gate, byteOfNat c.qOn, byteOfNat c.qOff, byteOfNat c.hold, byteOfNat c.phraseGap] := by
  obtain ⟨-, h2, h3, -⟩ := hc
  rw [TrackerSettings.bytes, twoBytesNat_eq (by omega), twoBytesNat_eq (by omega)]
  rfl

/-- Settles O37: the settings stored are those of `clampSettings`, read step by step. -/
theorem trackerSettingsStored : Obligations.TrackerSettingsStored := by
  unfold Obligations.TrackerSettingsStored
  intro seq l1 l0 h1 h0 g on off hold gap rest s h
  have hc := clampSettings_ok (word16 l1 l0).toNat (word16 h1 h0).toNat g.toInt on.toNat off.toNat hold.toNat gap.toNat
  refine ⟨_, hc, ?_, ?_, ?_, ?_, ?_, ?_, ?_⟩
  · simp only [clampSettings, word16_toNat, clampNat_eq_max (by decide : 70 ≤ 1400)]
    constructor <;> split_ifs <;> omega
  · exact clampInt_eq_max (by decide) _
  · exact clampNat_eq_max (by decide) _
  · exact clampNat_eq_max ((by decide : 20 ≤ 30).trans hc.2.2.2.2.1.1) _
  · exact (clampNat_eq_max (by decide) _).trans (Nat.zero_max _)
  · exact clampNat_eq_max (by decide) _
  · refine exec_answers (exec_setTracker ..) h { s with tracker := { s.tracker with settings := _ } } (.ok _)
      (a := [l1, l0, h1, h0, g, on, off, hold, gap]) rfl (Prod.ext rfl (congrArg Reply.ok ?_))
    exact TrackerSettings.bytes_eq hc

/-! ### The state after reset -/

theorem keyDefaults_ok : keyDefaults.Ok := by decide +kernel

theorem attnLow_noticesAtReset : noticesAtReset.attnLow = false := by decide +kernel

/-- Settles O3, block by block. -/
theorem resetValues : Obligations.ResetValues := by
  unfold Obligations.ResetValues
  dsimp only
  refine ⟨rfl, by decide +kernel, ⟨rfl, rfl, rfl⟩, by decide +kernel, by decide +kernel, rfl, fun _ => rfl, rfl, rfl,
    by decide +kernel, rfl, ⟨rfl, by decide +kernel⟩, rfl, ⟨rfl, rfl, rfl, rfl⟩, ⟨rfl, rfl, rfl, rfl⟩,
    ⟨by decide +kernel, by decide +kernel, by decide +kernel, rfl, attnLow_noticesAtReset⟩, rfl⟩

theorem reset_overlay_scenesOk : overlayAtReset.ScenesOk := by
  intro x hx
  rw [overlayAtReset, Vector.toList_replicate] at hx
  simp [List.eq_of_mem_replicate hx]

theorem reset_store_scenesOk : (storeAtReset (Vector.replicate 64 .blank) true).ScenesOk := by
  refine ⟨fun x hx => ?_, by simp [storeAtReset]⟩
  rw [storeAtReset, Vector.toList_replicate] at hx
  simp [List.eq_of_mem_replicate hx, Slot.record?]

theorem reset_audioOk : State.reset.AudioOk :=
  ⟨State.scenesOk_iff.mpr ⟨⟨defaultScene_ok, by simp [State.reset, workingAtReset]⟩, reset_overlay_scenesOk,
      List.forall_mem_nil _, reset_store_scenesOk⟩,
    trackerAtRest_ok defaultTrackerSettings_ok (by decide), plannerAtRest_ok, engineAtRest_ok _ defaultScene_ok⟩

/-- Before the first window the clock is ABSENT and the engine STALLED (R101, R106). -/
theorem reset_clockOk : State.reset.ClockOk := by decide

theorem reset_followOk : State.reset.FollowOk := by decide

theorem reset_storeOk : State.reset.StoreOk :=
  ⟨by decide, fun _ => rfl, .inl rfl, by simp [State.reset, storeAtReset]⟩

theorem reset_linkOk : State.reset.LinkOk := by decide

theorem noticesAtReset_ok : noticesAtReset.Ok := by decide +kernel

/-- Settles O4: each block's values at rest meet its law. -/
theorem resetIsSafe : Obligations.ResetIsSafe :=
  ⟨reset_audioOk, keyDefaults_ok, reset_clockOk, reset_followOk, by decide, by decide, reset_storeOk, reset_linkOk,
    noticesAtReset_ok⟩

end Sys2Proof.Machine
end

section
/-! Proofs: the frame pitch as a rounded logarithm (section 1.4). -/

namespace Sys2Proof.Machine

/-- A power of two between two others, read off the numbers it scales. -/
theorem pow_two_cancel {a b N n k : Nat} (hn : n ≤ N) (h0 : b ≤ a * 2 ^ n) (h1 : b * 2 ^ k ≤ a * 2 ^ N)
    (h2 : a * 2 ^ N < b * 2 ^ (k + 1)) :
    N - n ≤ k ∧ b * 2 ^ (k - (N - n)) ≤ a * 2 ^ n ∧ a * 2 ^ n < b * 2 ^ (k - (N - n) + 1) := by
  obtain ⟨d, rfl⟩ := Nat.exists_eq_add_of_le hn
  have hd : b * 2 ^ d < b * 2 ^ (k + 1) := calc
    b * 2 ^ d ≤ a * 2 ^ n * 2 ^ d := Nat.mul_le_mul_right _ h0
    _ = a * 2 ^ (n + d) := by rw [Nat.pow_add, Nat.mul_assoc]
    _ < b * 2 ^ (k + 1) := h2
  have hdk : d ≤ k := Nat.lt_succ_iff.mp ((Nat.pow_lt_pow_iff_right (by decide)).mp (Nat.lt_of_mul_lt_mul_left hd))
  obtain ⟨e, rfl⟩ := Nat.exists_eq_add_of_le hdk
  have hpos : 0 < 2 ^ d := Nat.two_pow_pos d
  rw [Nat.add_sub_cancel_left, Nat.add_sub_cancel_left]
  refine ⟨hdk, Nat.le_of_mul_le_mul_right (c := 2 ^ d) ?_ hpos, Nat.lt_of_mul_lt_mul_right (a := 2 ^ d) ?_⟩
  · calc
      b * 2 ^ e * 2 ^ d = b * 2 ^ (d + e) := by ring
      _ ≤ a * 2 ^ (n + d) := h1
      _ = a * 2 ^ n * 2 ^ d := by ring
  · calc
      a * 2 ^ n * 2 ^ d = a * 2 ^ (n + d) := by ring
      _ < b * 2 ^ (d + e + 1) := h2
      _ = b * 2 ^ (e + 1) * 2 ^ d := by ring

/-- `floorLog2Ratio`, for a quotient between the powers of two with exponents `-n` and `n`. -/
theorem floorLog2Ratio_bracket {a b n : Nat} (hn : n ≤ 16384) (h1 : b ≤ a * 2 ^ n) (h2 : a < b * 2 ^ n) :
    ∃ j : Nat, floorLog2Ratio a b = (j : Int) - n ∧ b * 2 ^ j ≤ a * 2 ^ n ∧ a * 2 ^ n < b * 2 ^ (j + 1) := by
  have hpow : 2 ^ n ≤ 2 ^ 16384 := Nat.pow_le_pow_right (by decide) hn
  obtain ⟨k, hk, hlo, hhi⟩ := floorLog2Ratio_spec (h1.trans (Nat.mul_le_mul_left _ hpow))
    (h2.trans_le (Nat.mul_le_mul_left _ hpow))
  obtain ⟨hle, hlo', hhi'⟩ := pow_two_cancel hn h1 hlo hhi
  exact ⟨k - (16384 - n), by rw [hk]; omega, hlo', hhi'⟩

/-- The products of period and tuning at the two ends of their ranges bound the quotient of the frame pitch. -/
theorem periodTuning_mem {t16 fRef : Nat} (ht : PeriodOk t16) (h1 : 4150 ≤ fRef) (h2 : fRef ≤ 4660) :
    2278350 ≤ t16 * fRef ∧ t16 * fRef ≤ 51124860 := by
  obtain ⟨hlo, hhi⟩ := ht
  exact ⟨Nat.mul_le_mul hlo h1, Nat.mul_le_mul hhi h2⟩

/-- The highest frame pitch: `7680000 / 2278350` lies below the power of two with exponent `4209 / 2400`. -/
theorem highest_pitch_figure : 7680000 ^ 800 < 2278350 ^ 800 * 2 ^ 1403 := by decide +kernel

/-- The lowest frame pitch: `7680000 / 51124860` is at least the power of two with exponent `-6565 / 2400`. -/
theorem lowest_pitch_figure : 51124860 ^ 480 ≤ 7680000 ^ 480 * 2 ^ 1313 := by decide +kernel

theorem pitch_quotient_lt {x : Nat} (h : 2278350 ≤ x) : 7680000 ^ 2400 < x ^ 2400 * 2 ^ 4209 := by
  have key : 7680000 ^ 800 < x ^ 800 * 2 ^ 1403 :=
    highest_pitch_figure.trans_le (Nat.mul_le_mul_right _ (Nat.pow_le_pow_left h 800))
  calc
    7680000 ^ 2400 = (7680000 ^ 800) ^ 3 := Nat.pow_mul 7680000 800 3
    _ < (x ^ 800 * 2 ^ 1403) ^ 3 := Nat.pow_lt_pow_left key (by decide)
    _ = x ^ 2400 * 2 ^ 4209 := by rw [Nat.mul_pow, ← Nat.pow_mul, ← Nat.pow_mul]

theorem le_pitch_quotient {x : Nat} (h : x ≤ 51124860) : x ^ 2400 ≤ 7680000 ^ 2400 * 2 ^ 6565 := by
  have key : x ^ 480 ≤ 7680000 ^ 480 * 2 ^ 1313 := (Nat.pow_le_pow_left h 480).trans lowest_pitch_figure
  calc
    x ^ 2400 = (x ^ 480) ^ 5 := Nat.pow_mul x 480 5
    _ ≤ (7680000 ^ 480 * 2 ^ 1313) ^ 5 := Nat.pow_le_pow_left key 5
    _ = 7680000 ^ 2400 * 2 ^ 6565 := by rw [Nat.mul_pow, ← Nat.pow_mul, ← Nat.pow_mul]

/-- The halving that rounds a logarithm taken in half steps. -/
theorem half_rounds (j n : Nat) : let k : Int := ((j : Int) - 2 * n + 1) / 2
    (2 * n + 2 * k - 1).toNat ≤ j ∧ j + 1 ≤ (2 * n + 2 * k + 1).toNat := by
  omega

/-- Settles O15: half steps of the logarithm are counted by `floorLog2Ratio`, and the two ends of the range bound the count. -/
theorem pitchRoundsInRange : Obligations.PitchRoundsInRange := by
  intro t16 fRef ht h1 h2
  obtain ⟨hlo, hhi⟩ := periodTuning_mem ht h1 h2
  have above := pitch_quotient_lt hlo
  have below := le_pitch_quotient hhi
  unfold pitchOf
  generalize (t16 * fRef) ^ 2400 = b at *
  generalize 7680000 ^ 2400 = a at *
  obtain ⟨j, hj, hjlo, hjhi⟩ := floorLog2Ratio_bracket (n := 8000) (by decide)
    (below.trans (Nat.mul_le_mul_left _ (Nat.pow_le_pow_right (by decide) (by decide))))
    (above.trans_le (Nat.mul_le_mul_left _ (Nat.pow_le_pow_right (by decide) (by decide))))
  have jlt : j < 12209 := by
    refine (Nat.pow_lt_pow_iff_right (by decide : 1 < 2)).mp (Nat.lt_of_mul_lt_mul_left (a := b) ?_)
    calc
      b * 2 ^ j ≤ a * 2 ^ 8000 := hjlo
      _ < b * 2 ^ 4209 * 2 ^ 8000 := Nat.mul_lt_mul_of_pos_right above (Nat.two_pow_pos _)
      _ = b * 2 ^ 12209 := by rw [Nat.mul_assoc, ← Nat.pow_add]
  obtain ⟨jge, -, -⟩ := pow_two_cancel (by decide) below hjlo hjhi
  obtain ⟨hr1, hr2⟩ := half_rounds j 4000
  rw [hj]
  refine ⟨⟨by omega, by omega⟩, ?_, ?_⟩
  · calc
      2 ^ (8000 + 2 * (6900 + ((j : Int) - (8000 : Nat) + 1) / 2 - 6900) - 1).toNat * b ≤ 2 ^ j * b :=
        Nat.mul_le_mul_right _ (Nat.pow_le_pow_right (by decide) (by omega))
      _ ≤ 2 ^ 8000 * a := by rw [Nat.mul_comm, Nat.mul_comm (2 ^ 8000)]; exact hjlo
  · calc
      2 ^ 8000 * a < 2 ^ (j + 1) * b := by rw [Nat.mul_comm, Nat.mul_comm (2 ^ (j + 1))]; exact hjhi
      _ ≤ _ := Nat.mul_le_mul_right _ (Nat.pow_le_pow_right (by decide) (by omega))

end Sys2Proof.Machine
end

section
/-! Proofs: energies, products and correlations over the real numbers (section 1.2). -/

namespace Sys2Proof.Machine

/-! ### Energies and products as sums -/

theorem energy_eq_sum (xs : List Sample) : energy xs = (xs.map fun x => x.toInt.natAbs ^ 2).sum := by
  rw [energy, List.sum_eq_foldl, List.foldl_map]

theorem product_eq_sum (xs ys : List Sample) :
    product xs ys = ((xs.zip ys).map fun p => p.1.toInt * p.2.toInt).sum := by
  rw [product, List.sum_eq_foldl, List.foldl_map]

theorem energy_cons (x : Sample) (xs : List Sample) : energy (x :: xs) = x.toInt.natAbs ^ 2 + energy xs := by
  simp [energy_eq_sum]

theorem product_cons (x y : Sample) (xs ys : List Sample) :
    product (x :: xs) (y :: ys) = x.toInt * y.toInt + product xs ys := by
  simp [product_eq_sum]

theorem sample_natAbs_le (x : Sample) : x.toInt.natAbs ≤ 2 ^ 23 := by
  have h1 := BitVec.le_toInt x
  have h2 := BitVec.toInt_lt (x := x)
  omega

theorem energy_le (xs : List Sample) : energy xs ≤ xs.length * 2 ^ 46 := by
  induction xs with
  | nil => exact Nat.le_refl 0
  | cons x xs ih =>
    have hx : x.toInt.natAbs ^ 2 ≤ (2 ^ 23) ^ 2 := Nat.pow_le_pow_left (sample_natAbs_le x) 2
    rw [energy_cons, List.length_cons]
    omega

theorem energy_newest_le (window : List Sample) : energy (newest window) ≤ 2 ^ 54 := by
  have hlen : (newest window).length ≤ 256 := by rw [newest, List.length_take]; exact Nat.min_le_left _ _
  have h := energy_le (newest window)
  omega

/-- One more term on each side keeps the Cauchy-Schwarz inequality. -/
theorem cauchySchwarz_step {x y p a b : ℝ} (ha : 0 ≤ a) (hb : 0 ≤ b) (h : p ^ 2 ≤ a * b) :
    (x * y + p) ^ 2 ≤ (x ^ 2 + a) * (y ^ 2 + b) := by
  have hs : 0 ≤ x ^ 2 * b + y ^ 2 * a := by positivity
  have hsq : (2 * x * y * p) ^ 2 ≤ (x ^ 2 * b + y ^ 2 * a) ^ 2 := by
    nlinarith [mul_le_mul_of_nonneg_left h (sq_nonneg (2 * x * y)), sq_nonneg (x ^ 2 * b - y ^ 2 * a)]
  have hmid := abs_le_of_sq_le_sq' hsq hs
  nlinarith [hmid.2]

/-- The Cauchy-Schwarz inequality for two stretches. -/
theorem product_sq_le (xs ys : List Sample) : (product xs ys : ℝ) ^ 2 ≤ energy xs * energy ys := by
  induction xs generalizing ys with
  | nil => simp [product, energy]
  | cons x xs ih =>
    cases ys with
    | nil => simp [product, energy]
    | cons y ys =>
      have step := cauchySchwarz_step (x := x.toInt) (y := y.toInt) (Nat.cast_nonneg _) (Nat.cast_nonneg _) (ih ys)
      rw [product_cons, energy_cons, energy_cons]
      push_cast [Nat.cast_natAbs]
      simpa using step

/-! ### The correlation a record stands for -/

/-- The real number a correlation stands for, beside the energy of the newest stretch. -/
noncomputable def Corr.value (e0 : Nat) (c : Corr) : ℝ := c.num / √(e0 * c.energy)

/-- A correlation of a frame: an energy above 0, nothing but 0 beside silence, and the bound of Cauchy and Schwarz. -/
structure Corr.Of (e0 : Nat) (c : Corr) : Prop where
  energy_pos : 0 < c.energy
  num_sq_le : c.num.natAbs ^ 2 ≤ e0 * c.energy

theorem natCast_natAbs_sq (n : Int) : ((n.natAbs ^ 2 : Nat) : ℝ) = (n : ℝ) ^ 2 := by
  rw [← Int.cast_natCast (R := ℝ), Nat.cast_pow, Int.natAbs_sq, Int.cast_pow]

theorem corrAt_of (window : List Sample) (lag : Nat) :
    (corrAt window (energy (newest window)) lag).Of (energy (newest window)) := by
  unfold corrAt
  split
  · exact ⟨Nat.one_pos, Nat.zero_le _⟩
  · split
    · exact ⟨Nat.one_pos, Nat.zero_le _⟩
    · next h =>
      refine ⟨Nat.pos_of_ne_zero h, ?_⟩
      have key := product_sq_le (newest window) (earlier window lag)
      rw [← natCast_natAbs_sq] at key
      exact_mod_cast key

theorem corrAt_value (window : List Sample) (lag : Nat) :
    (corrAt window (energy (newest window)) lag).value (energy (newest window)) =
      if energy (newest window) = 0 ∨ energy (earlier window lag) = 0 then 0
      else product (newest window) (earlier window lag) / √(energy (newest window) * energy (earlier window lag)) := by
  by_cases h0 : energy (newest window) = 0
  · simp [corrAt, Corr.value, h0]
  · by_cases h1 : energy (earlier window lag) = 0
    · simp [corrAt, Corr.value, h0, h1]
    · simp [corrAt, Corr.value, h0, h1]

section
variable {e0 : Nat} {a b c : Corr}

theorem Corr.Of.num_eq_zero (h : c.Of 0) : c.num = 0 := by
  have := h.num_sq_le
  simpa using this

theorem Corr.Of.value_sq_le_one (h : c.Of e0) : c.value e0 ^ 2 ≤ 1 := by
  have hn : (c.num : ℝ) ^ 2 ≤ e0 * c.energy := by
    rw [← natCast_natAbs_sq]
    exact_mod_cast h.num_sq_le
  rw [Corr.value, div_pow, Real.sq_sqrt (by positivity)]
  exact div_le_one_of_le₀ hn (by positivity)

theorem Corr.Of.value_mem (h : c.Of e0) : -1 ≤ c.value e0 ∧ c.value e0 ≤ 1 :=
  abs_le.mp ((sq_le_one_iff_abs_le_one _).mp h.value_sq_le_one)

end

/-! ### Signed squares -/

/-- The square of a number, with its sign. -/
def signedSq (x : ℝ) : ℝ := x * |x|

theorem signedSq_strictMono : StrictMono signedSq := by
  intro x y h
  unfold signedSq
  rcases le_or_gt 0 x with hx | hx
  · rw [abs_of_nonneg hx, abs_of_nonneg (hx.trans h.le)]
    nlinarith
  · rw [abs_of_neg hx]
    rcases le_or_gt 0 y with hy | hy
    · rw [abs_of_nonneg hy]
      nlinarith
    · rw [abs_of_neg hy]
      nlinarith

theorem signedSq_neg (x : ℝ) : signedSq (-x) = -signedSq x := by
  simp [signedSq]

theorem signedSq_mul (x y : ℝ) : signedSq (x * y) = signedSq x * signedSq y := by
  rw [signedSq, signedSq, signedSq, abs_mul]
  ring

theorem signedSq_sqrt {x : ℝ} (h : 0 ≤ x) : signedSq (√x) = x := by
  rw [signedSq, abs_of_nonneg (Real.sqrt_nonneg x), Real.mul_self_sqrt h]

theorem signedSq_intCast (n : Int) : signedSq n = (n * n.natAbs : Int) := by
  rw [signedSq]
  push_cast [Nat.cast_natAbs]
  rfl

/-- The sign of a sum of two numbers is that of the sum of their signed squares. -/
theorem sign_signedSq_add (x y : ℝ) : SignType.sign (signedSq x + signedSq y) = SignType.sign (x + y) := by
  rw [show signedSq y = -signedSq (-y) by rw [signedSq_neg, neg_neg], ← sub_eq_add_neg]
  rcases lt_trichotomy x (-y) with h | h | h
  · rw [sign_neg (sub_neg.mpr (signedSq_strictMono h)), sign_neg (by linarith)]
  · rw [h, sub_self, neg_add_cancel]
  · rw [sign_pos (sub_pos.mpr (signedSq_strictMono h)), sign_pos (by linarith)]

end Sys2Proof.Machine
end

section
/-! Proofs: the chosen lag and the confidence (section 1.2). -/

namespace Sys2Proof.Machine

/-! ### The order of correlations -/

section
variable {e0 : Nat} {a b c : Corr}

theorem Corr.signedSq_value : signedSq (c.value e0) = (c.num * c.num.natAbs : Int) / (e0 * c.energy) := by
  rw [Corr.value, div_eq_mul_inv, ← Real.sqrt_inv, signedSq_mul, signedSq_sqrt (by positivity), signedSq_intCast,
    div_eq_mul_inv]

/-- The comparison of two correlations of a frame is that of the numbers they stand for. -/
theorem Corr.lt_iff (ha : a.Of e0) (hb : b.Of e0) : a.lt b = true ↔ a.value e0 < b.value e0 := by
  rcases Nat.eq_zero_or_pos e0 with rfl | h0
  · simp [Corr.lt, Corr.value, ha.num_eq_zero, hb.num_eq_zero]
  · have hea : (0 : ℝ) < a.energy := Nat.cast_pos.mpr ha.energy_pos
    have heb : (0 : ℝ) < b.energy := Nat.cast_pos.mpr hb.energy_pos
    have he0 : (0 : ℝ) < e0 := Nat.cast_pos.mpr h0
    rw [← signedSq_strictMono.lt_iff_lt, Corr.signedSq_value, Corr.signedSq_value, mul_comm (e0 : ℝ), mul_comm (e0 : ℝ),
      ← div_div, ← div_div, div_lt_div_iff_of_pos_right he0, div_lt_div_iff₀ hea heb, Corr.lt, decide_eq_true_iff]
    exact_mod_cast Iff.rfl

theorem Corr.lt_eq_false_iff (ha : a.Of e0) (hb : b.Of e0) : a.lt b = false ↔ b.value e0 ≤ a.value e0 := by
  rw [← Bool.not_eq_true, Corr.lt_iff ha hb, not_lt]

end

/-! ### The chosen lag -/

/-- The correlation of a frame at a lag, as a real number. -/
noncomputable def correlation (window : List Sample) (lag : Nat) : ℝ :=
  (corrAt window (energy (newest window)) lag).value (energy (newest window))

/-- The smallest lag of a range with the highest correlation, beside that correlation. -/
structure IsPeak (window : List Sample) (lagA lagB : Nat) (p : Nat × Corr) : Prop where
  mem : lagA ≤ p.1 ∧ p.1 ≤ lagB
  corr : p.2 = corrAt window (energy (newest window)) p.1
  highest : ∀ lag, lagA ≤ lag → lag ≤ lagB →
    correlation window lag ≤ correlation window p.1 ∧ (lag < p.1 → correlation window lag < correlation window p.1)

section
variable {window : List Sample} {lagA lagB : Nat} {p : Nat × Corr}

theorem IsPeak.single (window : List Sample) (lag : Nat) :
    IsPeak window lag lag (lag, corrAt window (energy (newest window)) lag) where
  mem := ⟨Nat.le_refl _, Nat.le_refl _⟩
  corr := rfl
  highest l h1 h2 := by
    obtain rfl : l = lag := Nat.le_antisymm h2 h1
    exact ⟨le_refl _, fun h => absurd h (Nat.lt_irrefl _)⟩

/-- One more lag: it is taken exactly where its correlation lies above the best so far. -/
theorem IsPeak.extend (h : IsPeak window lagA lagB p) :
    IsPeak window lagA (lagB + 1)
      (if p.2.lt (corrAt window (energy (newest window)) (lagB + 1))
        then (lagB + 1, corrAt window (energy (newest window)) (lagB + 1)) else p) := by
  obtain ⟨⟨hlo, hhi⟩, hcorr, hhigh⟩ := h
  have hlt := Corr.lt_iff (corrAt_of window p.1) (corrAt_of window (lagB + 1))
  rw [← hcorr] at hlt
  have hvalue : p.2.value (energy (newest window)) = correlation window p.1 := by rw [hcorr, correlation]
  rw [hvalue, ← correlation] at hlt
  split
  · next hnew =>
    have above := hlt.mp hnew
    refine ⟨⟨by simp only; omega, Nat.le_refl _⟩, rfl, fun lag h1 h2 => ?_⟩
    rcases Nat.lt_or_ge lagB lag with hl | hl
    · obtain rfl : lag = lagB + 1 := by omega
      exact ⟨le_refl _, fun h => absurd h (Nat.lt_irrefl _)⟩
    · have below := (hhigh lag h1 hl).1.trans_lt above
      exact ⟨below.le, fun _ => below⟩
  · next hold =>
    have below := not_lt.mp fun h => hold (hlt.mpr h)
    refine ⟨⟨hlo, by omega⟩, hcorr, fun lag h1 h2 => ?_⟩
    rcases Nat.lt_or_ge lagB lag with hl | hl
    · obtain rfl : lag = lagB + 1 := by omega
      exact ⟨below, fun h => by omega⟩
    · exact hhigh lag h1 hl

theorem peakFrom_isPeak (n : Nat) (h : IsPeak window lagA lagB p) :
    IsPeak window lagA (lagB + n) (peakFrom window (energy (newest window)) (lagB + 1) n p) := by
  induction n generalizing lagB p with
  | zero => exact h
  | succ n ih =>
    rw [peakFrom, Nat.add_comm n, ← Nat.add_assoc]
    exact ih h.extend

theorem peak_isPeak (window : List Sample) (h : lagA ≤ lagB) :
    IsPeak window lagA lagB (peak window (energy (newest window)) lagA lagB) := by
  have key := peakFrom_isPeak (lagB - lagA) (IsPeak.single window lagA)
  rwa [Nat.add_sub_cancel' h] at key

end

/-! ### The confidence -/

section
variable {e0 : Nat} {c : Corr}

theorem Corr.Of.scale_pos (h : c.Of e0) (hn : 0 < c.num) : 0 < e0 * c.energy := by
  have hsq := h.num_sq_le
  have : 0 < c.num.natAbs ^ 2 := Nat.pow_pos (by omega)
  omega

theorem Corr.Of.value_pos_iff (h : c.Of e0) : 0 < c.value e0 ↔ 0 < c.num := by
  constructor
  · intro hv
    by_contra hn
    have hle : (c.num : ℝ) ≤ 0 := by exact_mod_cast not_lt.mp hn
    exact absurd hv (not_lt.mpr (div_nonpos_of_nonpos_of_nonneg hle (Real.sqrt_nonneg _)))
  · intro hn
    have hd : (0 : ℝ) < e0 * c.energy := by exact_mod_cast h.scale_pos hn
    exact div_pos (by exact_mod_cast hn) (Real.sqrt_pos.mpr hd)

theorem confidenceOf_of_not_pos (h : c.num ≤ 0) : confidenceOf e0 c = 0 :=
  if_neg (not_lt.mpr h)

/-- The root that is halved into a confidence. -/
theorem confidence_root (h : c.Of e0) (hn : 0 < c.num) :
    ∃ f, confidenceOf e0 c = (f + 1) / 2 ∧ f ≤ 200 ∧ f ^ 2 * (e0 * c.energy) ≤ 40000 * c.num.natAbs ^ 2 ∧
      40000 * c.num.natAbs ^ 2 < (f + 1) ^ 2 * (e0 * c.energy) := by
  have hd := h.scale_pos hn
  have hquot : 40000 * c.num.natAbs ^ 2 / (e0 * c.energy) ≤ 40000 :=
    Nat.div_le_of_le_mul (by rw [Nat.mul_comm (e0 * c.energy)]; exact Nat.mul_le_mul_left _ h.num_sq_le)
  obtain ⟨lo, hi⟩ := floorRoot_spec (bits := 8) (by decide : 0 < 2) (hquot.trans_lt (by decide))
  refine ⟨floorRoot 2 (40000 * c.num.natAbs ^ 2 / (e0 * c.energy)) 8, if_pos hn, ?_,
    (Nat.le_div_iff_mul_le hd).mp lo, (Nat.div_lt_iff_lt_mul hd).mp hi⟩
  exact (Nat.pow_le_pow_iff_left (by decide : 2 ≠ 0)).mp (lo.trans hquot)

theorem confidenceOf_le (h : c.Of e0) : confidenceOf e0 c ≤ 100 := by
  rcases le_or_gt c.num 0 with hn | hn
  · rw [confidenceOf_of_not_pos hn]
    exact Nat.zero_le _
  · obtain ⟨f, hf, hle, -⟩ := confidence_root h hn
    omega

theorem confidenceOf_squares (h : c.Of e0) (hn : 0 < c.num) :
    (2 * confidenceOf e0 c - 1) ^ 2 * (e0 * c.energy) ≤ 40000 * c.num.natAbs ^ 2 ∧
      40000 * c.num.natAbs ^ 2 < (2 * confidenceOf e0 c + 1) ^ 2 * (e0 * c.energy) := by
  obtain ⟨f, hf, -, lo, hi⟩ := confidence_root h hn
  exact ⟨(Nat.mul_le_mul_right _ (Nat.pow_le_pow_left (by omega) 2)).trans lo,
    hi.trans_le (Nat.mul_le_mul_right _ (Nat.pow_le_pow_left (by omega) 2))⟩

theorem Corr.Of.value_sq (h : c.Of e0) (hn : 0 < c.num) :
    (200 * c.value e0) ^ 2 * (e0 * c.energy : Nat) = (40000 * c.num.natAbs ^ 2 : Nat) := by
  have hd : (e0 * c.energy : ℝ) ≠ 0 := by exact_mod_cast (h.scale_pos hn).ne'
  rw [Nat.cast_mul 40000, natCast_natAbs_sq, Nat.cast_mul, Corr.value, mul_pow, div_pow, Real.sq_sqrt (by positivity),
    mul_assoc, div_mul_cancel₀ _ hd]
  norm_num

theorem Corr.Of.le_value (h : c.Of e0) (hn : 0 < c.num) {m : Nat}
    (hm : m ^ 2 * (e0 * c.energy) ≤ 40000 * c.num.natAbs ^ 2) : (m : ℝ) ≤ 200 * c.value e0 := by
  have hv : 0 ≤ 200 * c.value e0 := mul_nonneg (by norm_num) (h.value_pos_iff.mpr hn).le
  have hd : (0 : ℝ) < (e0 * c.energy : Nat) := Nat.cast_pos.mpr (h.scale_pos hn)
  refine (sq_le_sq₀ (Nat.cast_nonneg m) hv).mp (le_of_mul_le_mul_right ?_ hd)
  rw [h.value_sq hn]
  exact_mod_cast hm

theorem Corr.Of.value_lt (h : c.Of e0) (hn : 0 < c.num) {m : Nat}
    (hm : 40000 * c.num.natAbs ^ 2 < m ^ 2 * (e0 * c.energy)) : 200 * c.value e0 < m := by
  have hv : 0 ≤ 200 * c.value e0 := mul_nonneg (by norm_num) (h.value_pos_iff.mpr hn).le
  have hd : (0 : ℝ) < (e0 * c.energy : Nat) := Nat.cast_pos.mpr (h.scale_pos hn)
  refine (sq_lt_sq₀ hv (Nat.cast_nonneg m)).mp (lt_of_mul_lt_mul_right ?_ hd.le)
  rw [h.value_sq hn]
  exact_mod_cast hm

/-- The confidence is the rounded percentage of a correlation above 0. -/
theorem confidenceOf_eq (h : c.Of e0) :
    (confidenceOf e0 c : ℤ) = if 0 < c.value e0 then ⌊100 * c.value e0 + 1 / 2⌋ else 0 := by
  split
  · next hv =>
    have hn := h.value_pos_iff.mp hv
    obtain ⟨lo, hi⟩ := confidenceOf_squares h hn
    have below : 2 * (confidenceOf e0 c : ℝ) ≤ ((2 * confidenceOf e0 c - 1 : Nat) : ℝ) + 1 := by
      exact_mod_cast (by omega : 2 * confidenceOf e0 c ≤ 2 * confidenceOf e0 c - 1 + 1)
    have lo' := h.le_value hn lo
    have hi' := h.value_lt hn hi
    push_cast at hi'
    refine (Int.floor_eq_iff.mpr ⟨?_, ?_⟩).symm <;> push_cast <;> linarith
  · next hv =>
    rw [confidenceOf_of_not_pos (not_lt.mp fun hn => hv (h.value_pos_iff.mpr hn)), Nat.cast_zero]

end

/-- Settles O14: the order of correlations is that of the numbers they stand for, the search keeps the smallest of the highest,
and the confidence halves a whole root. -/
theorem peakAndConfidence : Obligations.PeakAndConfidence := by
  intro window lagA lagB hAB e0 p new old r
  have hr : r = correlation window := funext fun lag => (corrAt_value window lag).symm
  have hof (lag : Nat) : (corrAt window e0 lag).Of e0 := corrAt_of window lag
  obtain ⟨hmem, hcorr, hhigh⟩ : IsPeak window lagA lagB p := peak_isPeak window hAB
  have hp : p.2.Of e0 := hcorr ▸ hof p.1
  have hvalue : p.2.value e0 = correlation window p.1 := by rw [hcorr, correlation]
  rw [hr]
  refine ⟨⟨hhigh, fun lag => (hof lag).value_mem, ?_⟩, ⟨hmem.1, hmem.2, hcorr⟩, fun lag h1 h2 => ⟨?_, fun hlt => ?_⟩,
    fun lag => (hof lag).num_sq_le, confidenceOf_le hp, confidenceOf_of_not_pos, confidenceOf_squares hp⟩
  · rw [confidenceOf_eq hp, hvalue]
  · exact (Corr.lt_eq_false_iff hp (hof lag)).mpr (hvalue ▸ (hhigh lag h1 h2).1)
  · exact (Corr.lt_iff (hof lag) hp).mpr (hvalue ▸ (hhigh lag h1 h2).2 hlt)

end Sys2Proof.Machine
end

section
/-! Proofs: the level and the parabola through three correlations (section 1.2). -/

namespace Sys2Proof.Machine

/-! ### The level -/

/-- The two bounds of the rounding, from the first count of the search that reaches its bound. -/
theorem levelOf_bounds (sum : Nat) :
    (-96 < levelOf sum → 2 ^ 1080 ≤ sum ^ 20 * 10 ^ (1 - 2 * levelOf sum).toNat) ∧
      (levelOf sum < 0 → sum ^ 20 * 10 ^ (-1 - 2 * levelOf sum).toNat < 2 ^ 1080) := by
  unfold levelOf
  generalize 2 ^ 1080 = full
  split
  · next k hk =>
    obtain ⟨reached, -, before⟩ := List.find?_range_eq_some.mp hk
    have hup : (1 - 2 * -(k : Int)).toNat = 1 + 2 * k := by omega
    refine ⟨fun _ => by rw [hup]; exact of_decide_eq_true reached, fun hneg => ?_⟩
    have hdown : (-1 - 2 * -(k : Int)).toNat = 1 + 2 * (k - 1) := by omega
    have hprev := before (k - 1) (by omega)
    rw [hdown]
    simpa using hprev
  · next hk =>
    have hlast := List.find?_range_eq_none.mp hk 95 (by decide)
    exact ⟨fun h => absurd h (Int.lt_irrefl _), fun _ => by simpa using hlast⟩

/-! ### Signs of sums of square roots -/

theorem signedSq_mul_sqrt (a : Int) (A : Nat) : signedSq (a * √A) = (a * a.natAbs * A : Int) := by
  rw [signedSq_mul, signedSq_sqrt (Nat.cast_nonneg A), signedSq_intCast]
  push_cast
  rfl

theorem signSurd2_eq (a : Int) (A : Nat) (b : Int) (B : Nat) :
    signSurd2 a A b B = SignType.sign (a * √A + b * √B : ℝ) := by
  rw [signSurd2, Int.sign_eq_sign, ← sign_signedSq_add, signedSq_mul_sqrt, signedSq_mul_sqrt, ← Int.cast_add, sign_intCast]

theorem sign_mul_sq (x : ℝ) : ((SignType.sign x : ℤ) : ℝ) * x ^ 2 = signedSq x := by
  rw [signedSq, ← sign_mul_self x]
  push_cast
  ring

theorem signSurd3_eq (a : Int) (A : Nat) (b : Int) (B : Nat) (c : Int) (C : Nat) :
    signSurd3 a A b B c C = SignType.sign (a * √A + b * √B + c * √C : ℝ) := by
  rw [signSurd3, ← sign_signedSq_add (a * √A + b * √B), ← sign_mul_sq, signedSq_mul_sqrt, ← signSurd2_eq a A b B]
  generalize signSurd2 a A b B = σ
  rw [signSurd2_eq]
  congr 2
  have hA := Real.sq_sqrt (Nat.cast_nonneg (α := ℝ) A)
  have hB := Real.sq_sqrt (Nat.cast_nonneg (α := ℝ) B)
  push_cast
  rw [Real.sqrt_mul (Nat.cast_nonneg A), Real.sqrt_one]
  linear_combination (-σ * a ^ 2) * hA - (σ * b ^ 2) * hB

section
variable {e0 : Nat}

theorem Corr.Of.num_eq {c : Corr} (h : c.Of e0) : (c.num : ℝ) = c.value e0 * (√e0 * √c.energy) := by
  rcases Nat.eq_zero_or_pos e0 with rfl | h0
  · simp [h.num_eq_zero]
  · have hd : √(e0 * c.energy : ℝ) ≠ 0 :=
      (Real.sqrt_pos.mpr (mul_pos (Nat.cast_pos.mpr h0) (Nat.cast_pos.mpr h.energy_pos))).ne'
    rw [Corr.value, ← Real.sqrt_mul (Nat.cast_nonneg e0), div_mul_cancel₀ _ hd]

variable {r1 r2 r3 : Corr}

/-- The sign of a combination of three correlations of a frame. -/
theorem signCorrs_eq (h1 : r1.Of e0) (h2 : r2.Of e0) (h3 : r3.Of e0) (x y z : Int) :
    signCorrs x r1 y r2 z r3 = SignType.sign (x * r1.value e0 + y * r2.value e0 + z * r3.value e0) := by
  rw [signCorrs, signSurd3_eq]
  rcases Nat.eq_zero_or_pos e0 with rfl | h0
  · simp [h1.num_eq_zero, h2.num_eq_zero, h3.num_eq_zero, Corr.value]
  · have hscale : 0 < √e0 * √r1.energy * √r2.energy * √r3.energy := by
      have := h1.energy_pos
      have := h2.energy_pos
      have := h3.energy_pos
      positivity
    congr 1
    rw [← one_mul (SignType.sign (x * r1.value e0 + y * r2.value e0 + z * r3.value e0)), ← sign_pos hscale, ← sign_mul]
    congr 1
    push_cast
    rw [h1.num_eq, h2.num_eq, h3.num_eq, Real.sqrt_mul (Nat.cast_nonneg _), Real.sqrt_mul (Nat.cast_nonneg _),
      Real.sqrt_mul (Nat.cast_nonneg _)]
    ring

/-! ### The offset of the parabola -/

/-- The second difference of three correlations. -/
noncomputable def curvature (e0 : Nat) (r1 r2 r3 : Corr) : ℝ := r1.value e0 - 2 * r2.value e0 + r3.value e0

/-- The offset δ of R3: the vertex of the parabola through three correlations, within half a lag, and 0 without a maximum. -/
noncomputable def vertexOffset (e0 : Nat) (r1 r2 r3 : Corr) : ℝ :=
  if curvature e0 r1 r2 r3 < 0 then
    max (-1 / 2) (min (1 / 2) ((r1.value e0 - r3.value e0) / (2 * curvature e0 r1 r2 r3)))
  else 0

theorem sign_toInt_neg_iff (x : ℝ) : (SignType.sign x : ℤ) < 0 ↔ x < 0 := by
  rw [← sign_eq_neg_one_iff (a := x)]
  generalize SignType.sign x = σ
  cases σ <;> decide

theorem sign_toInt_nonpos_iff (x : ℝ) : (SignType.sign x : ℤ) ≤ 0 ↔ x ≤ 0 := by
  rw [← sign_nonpos_iff (a := x)]
  generalize SignType.sign x = σ
  cases σ <;> decide

theorem signCorrs_curvature (h1 : r1.Of e0) (h2 : r2.Of e0) (h3 : r3.Of e0) :
    signCorrs 1 r1 (-2) r2 1 r3 < 0 ↔ curvature e0 r1 r2 r3 < 0 := by
  have hsum : ((1 : ℤ) : ℝ) * r1.value e0 + ((-2 : ℤ) : ℝ) * r2.value e0 + ((1 : ℤ) : ℝ) * r3.value e0 =
      curvature e0 r1 r2 r3 := by
    rw [curvature]
    push_cast
    ring
  rw [signCorrs_eq h1 h2 h3, sign_toInt_neg_iff, hsum]

/-- The search of `refine` asks for the greatest sixteenth at most half a sixteenth above the vertex. -/
theorem signCorrs_vertex (h1 : r1.Of e0) (h2 : r2.Of e0) (h3 : r3.Of e0) (hd : curvature e0 r1 r2 r3 < 0) (k : Int) :
    signCorrs (16 - (2 * k - 1)) r1 (2 * (2 * k - 1)) r2 (-16 - (2 * k - 1)) r3 ≤ 0 ↔
      k ≤ ⌊16 * ((r1.value e0 - r3.value e0) / (2 * curvature e0 r1 r2 r3)) + 1 / 2⌋ := by
  have hsum : ((16 - (2 * k - 1) : ℤ) : ℝ) * r1.value e0 + ((2 * (2 * k - 1) : ℤ) : ℝ) * r2.value e0 +
      ((-16 - (2 * k - 1) : ℤ) : ℝ) * r3.value e0 =
      2 * (8 * (r1.value e0 - r3.value e0) - (k - 1 / 2) * curvature e0 r1 r2 r3) := by
    rw [curvature]
    push_cast
    ring
  have hquot : 16 * ((r1.value e0 - r3.value e0) / (2 * curvature e0 r1 r2 r3)) =
      8 * (r1.value e0 - r3.value e0) / curvature e0 r1 r2 r3 := by
    field_simp
    ring
  rw [signCorrs_eq h1 h2 h3, sign_toInt_nonpos_iff, hsum, Int.le_floor, hquot, ← sub_le_iff_le_add, le_div_iff_of_neg hd]
  constructor <;> intro h <;> linarith

/-- Counting down from 8 to the first number at or below a bound, no further than -8. -/
theorem countdown_eq (K : Int) (p : Nat → Bool) (hp : ∀ i, p i = true ↔ 8 - (i : Int) ≤ K) :
    (match (List.range 16).find? p with
      | some i => 8 - (i : Int)
      | none => -8) = max (-8) (min 8 K) := by
  split
  · next i hi =>
    obtain ⟨reached, hmem, before⟩ := List.find?_range_eq_some.mp hi
    have hle := (hp i).mp reached
    have hi16 := List.mem_range.mp hmem
    rcases Nat.eq_zero_or_pos i with rfl | hpos
    · show 8 - ((0 : Nat) : Int) = _
      omega
    · have hprev := before (i - 1) (by omega)
      have : ¬ 8 - ((i - 1 : Nat) : Int) ≤ K := fun h => by simp [(hp _).mpr h] at hprev
      show 8 - (i : Int) = _
      omega
  · next hnone =>
    have hlast := List.find?_range_eq_none.mp hnone 15 (by decide)
    have : ¬ 8 - ((15 : Nat) : Int) ≤ K := fun h => by simp [(hp _).mpr h] at hlast
    omega

/-- Rounding to a whole number and clamping to whole bounds go past each other. -/
theorem round_clamp (x : ℝ) : ⌊16 * max (-1 / 2) (min (1 / 2) x) + 1 / 2⌋ = max (-8) (min 8 ⌊16 * x + 1 / 2⌋) := by
  have hmono : Monotone fun t : ℝ => ⌊16 * t + 1 / 2⌋ := fun a b hab => Int.floor_le_floor (by linarith)
  have hlo : ⌊16 * (-1 / 2 : ℝ) + 1 / 2⌋ = -8 := by norm_num [Int.floor_eq_iff]
  have hhi : ⌊16 * (1 / 2 : ℝ) + 1 / 2⌋ = 8 := by norm_num [Int.floor_eq_iff]
  rw [hmono.map_max, hmono.map_min, hlo, hhi]

theorem refine_eq (h1 : r1.Of e0) (h2 : r2.Of e0) (h3 : r3.Of e0) :
    refine r1 r2 r3 = ⌊16 * vertexOffset e0 r1 r2 r3 + 1 / 2⌋ := by
  have hcurved := signCorrs_curvature h1 h2 h3
  unfold refine vertexOffset
  by_cases hd : curvature e0 r1 r2 r3 < 0
  · rw [if_pos (hcurved.mpr hd), if_pos hd, round_clamp]
    exact countdown_eq _ _ fun i => decide_eq_true_iff.trans (signCorrs_vertex h1 h2 h3 hd (8 - i))
  · rw [if_neg (mt hcurved.mp hd), if_neg hd]
    norm_num

end

/-! ### The period -/

section
variable {e0 : Nat} {r1 r2 r3 : Corr}

theorem periodOf_eq {tLo tHi : Nat} (h : tLo ≤ tHi) (h1 : r1.Of e0) (h2 : r2.Of e0) (h3 : r3.Of e0) (lag : Nat) :
    (periodOf tLo tHi lag r1 r2 r3 : ℤ) =
      max (tLo : ℤ) (min (tHi : ℤ) ⌊16 * ((lag : ℝ) + vertexOffset e0 r1 r2 r3) + 1 / 2⌋) := by
  have hsum : 16 * ((lag : ℝ) + vertexOffset e0 r1 r2 r3) + 1 / 2 =
      ((16 * lag : ℤ) : ℝ) + (16 * vertexOffset e0 r1 r2 r3 + 1 / 2) := by
    push_cast
    ring
  have hmem := clampInt_mem (Int.ofNat_le.mpr h) (16 * (lag : Int) + refine r1 r2 r3)
  rw [hsum, Int.floor_intCast_add, ← refine_eq h1 h2 h3, periodOf, Int.toNat_of_nonneg (by omega),
    clampInt_eq_max (Int.ofNat_le.mpr h)]

end

/-- Settles O13: the level by its first reached bound, the sums written out, and the period from the vertex of the parabola. -/
theorem levelAndPeriodMeasures : Obligations.LevelAndPeriodMeasures := by
  refine ⟨fun window => ⟨energy_newest_le window, levelOf_mem _, levelOf_bounds _⟩,
    fun xs ys => ⟨energy_eq_sum xs, product_eq_sum xs ys⟩, ?_⟩
  intro window c hc m new old p r d δ
  have hr : r = correlation window := funext fun lag => (corrAt_value window lag).symm
  have hlag := TrackerSettings.tLo_le_tHi hc
  obtain ⟨hloUp, hloDown, hlo⟩ := TrackerSettings.tLo_spec hc
  obtain ⟨hhiDown, hhiUp, hhi⟩ := TrackerSettings.tHi_spec hc
  have hpeak : IsPeak window (c.tLo / 16) ((c.tHi + 15) / 16) p := peak_isPeak window (by omega)
  have hvalue : p.2.value (energy new) = correlation window p.1 := congrArg (Corr.value (energy new)) hpeak.corr
  have hp : p.2.Of (energy new) := hpeak.corr ▸ corrAt_of window p.1
  have ht16 : m.t16 =
      periodOf c.tLo c.tHi p.1 (corrAt window (energy new) (p.1 - 1)) p.2 (corrAt window (energy new) (p.1 + 1)) := rfl
  have hδ : δ =
      vertexOffset (energy new) (corrAt window (energy new) (p.1 - 1)) p.2 (corrAt window (energy new) (p.1 + 1)) := by
    rw [vertexOffset, curvature, hvalue]
    simp only [δ, d, hr]
    rfl
  have hmem := periodOf_mem hlag p.1 (corrAt window (energy new) (p.1 - 1)) p.2 (corrAt window (energy new) (p.1 + 1))
  refine ⟨⟨⟨hloUp, hloDown⟩, ⟨hhiDown, hhiUp⟩, hlo, hhi⟩, ⟨measure_level _ _ _, rfl⟩, ?_, ?_⟩
  · rw [ht16, hδ]
    exact periodOf_eq hlag (corrAt_of window _) hp (corrAt_of window _) p.1
  · rw [ht16]
    exact hmem

end Sys2Proof.Machine
end

section
/-! Proofs: recognition, the note set and the chord context (R24 to R28, R33 to R37), and the law of the Key Context Unit. -/

namespace Sys2Proof.Machine

/-! ### Recognition (R33, R34) -/

/-- Class `c` is a tone of the set with the root applied (R33). -/
theorem memShifted_iff {set : PitchSet} {r c : Nat} (hc : c < 12) :
    memShifted set r c = true ↔ ∃ i, i < 12 ∧ set.getLsbD i = true ∧ c = (i + r) % 12 := by
  rw [← shiftSet_getLsbD hc, shiftSet, pitchSet_getLsbD hc]
  simp [hc]

/-- A root qualifies where it is held and every held class is a tone of the chord on it (R33). -/
theorem qualifies_iff {notes : List Nat} {set : PitchSet} {r : Nat} :
    qualifies notes set r = true ↔ (∃ n ∈ notes, n % 12 = r) ∧
      ∀ c, (∃ n ∈ notes, n % 12 = c) → ∃ i, i < 12 ∧ set.getLsbD i = true ∧ c = (i + r) % 12 := by
  have hmem (n : Nat) := memShifted_iff (set := set) (r := r) (Nat.mod_lt n (by decide : 12 > 0))
  simp only [qualifies, Bool.and_eq_true, List.any_eq_true, List.all_eq_true, decide_eq_true_eq, hmem]
  exact and_congr_right fun _ => ⟨fun h c ⟨n, hn, e⟩ => e ▸ h n hn, fun h n hn => h _ ⟨n, hn, rfl⟩⟩

/-- The root taken lies the fewest steps above the bass among those that qualify (R34). -/
theorem rootFor_eq_some {notes : List Nat} {set : PitchSet} {r : Nat} :
    rootFor notes set = some r ↔ ∃ d < 12, r = (bassClass notes + d) % 12 ∧ qualifies notes set r = true ∧
      ∀ e < d, qualifies notes set ((bassClass notes + e) % 12) = false := by
  simp only [rootFor, List.find?_map, Option.map_eq_some_iff, List.find?_range_eq_some, List.mem_range, Function.comp_apply,
    Bool.not_eq_true']
  constructor
  · rintro ⟨d, ⟨hq, hd, hmin⟩, rfl⟩
    exact ⟨d, hd, rfl, hq, hmin⟩
  · rintro ⟨d, hd, rfl, hq, hmin⟩
    exact ⟨d, ⟨hq, hd, hmin⟩, rfl⟩

theorem rootFor_lt {notes : List Nat} {set : PitchSet} {r : Nat} (h : rootFor notes set = some r) : r < 12 := by
  obtain ⟨d, -, rfl, -⟩ := rootFor_eq_some.mp h
  exact Nat.mod_lt _ (by decide)

/-- No root is taken only where none qualifies (R34). -/
theorem not_qualifies_of_rootFor_eq_none {notes : List Nat} {set : PitchSet} {r : Nat} (hr : r < 12)
    (h : rootFor notes set = none) : ¬qualifies notes set r = true := by
  simp only [rootFor, List.find?_map, Option.map_eq_none_iff, List.find?_range_eq_none, Function.comp_apply,
    Bool.not_eq_true'] at h
  have hd := h ((r + 12 - bassClass notes) % 12) (Nat.mod_lt _ (by decide))
  have hb : bassClass notes < 12 := Nat.mod_lt _ (by decide)
  have e : (bassClass notes + (r + 12 - bassClass notes) % 12) % 12 = r := by omega
  rw [e] at hd
  simp [hd]

/-- What a search upward from 0 finds: the first number with a value. -/
theorem findSome?_range_eq_some {α : Type} {f : Nat → Option α} {n : Nat} {b : α}
    (h : (List.range n).findSome? f = some b) : ∃ t < n, f t = some b ∧ ∀ j < t, f j = none := by
  obtain ⟨l₁, t, l₂, hl, hb, hnone⟩ := List.findSome?_eq_some_iff.mp h
  have ht : t < n := List.mem_range.mp (hl ▸ by simp)
  have hlt : ∀ x ∈ l₂, t < x := by
    have hp := List.pairwise_lt_range (n := n)
    rw [hl, List.pairwise_append, List.pairwise_cons] at hp
    exact hp.2.1.1
  refine ⟨t, ht, hb, fun j hj => hnone j ?_⟩
  have hmem : j ∈ l₁ ++ t :: l₂ := hl ▸ List.mem_range.mpr (hj.trans ht)
  rcases List.mem_append.mp hmem with hj1 | hj1
  · exact hj1
  · rcases List.mem_cons.mp hj1 with rfl | hj2
    · exact absurd hj (lt_irrefl _)
    · exact absurd (hlt j hj2) hj.asymm

/-- The entry taken is the smallest for which some root qualifies (R34). -/
theorem KeyContext.recognise_eq_some {k : KeyContext} {t r : Nat} (h : k.recognise = some (t, r)) :
    t < 12 ∧ rootFor k.notes (k.template t).intervals = some r ∧
      ∀ j < t, rootFor k.notes (k.template j).intervals = none := by
  obtain ⟨t', ht, hroot, hmin⟩ := findSome?_range_eq_some h
  obtain ⟨r', hr', e⟩ := Option.map_eq_some_iff.mp hroot
  cases e
  exact ⟨ht, hr', fun j hj => Option.map_eq_none_iff.mp (hmin j hj)⟩

/-- Nothing is recognised only where no entry has a root (R34). -/
theorem KeyContext.rootFor_of_recognise_eq_none {k : KeyContext} (h : k.recognise = none) {t : Nat} (ht : t < 12) :
    rootFor k.notes (k.template t).intervals = none :=
  Option.map_eq_none_iff.mp (List.findSome?_eq_none_iff.mp h t (List.mem_range.mpr ht))

/-- The bass is the class of a lowest held note (R33). -/
theorem bassClass_eq {notes : List Nat} {low : Nat} (hmem : low ∈ notes) (hlow : ∀ n ∈ notes, low ≤ n) :
    bassClass notes = low % 12 := by
  rw [bassClass, List.min?_eq_some_iff.mpr ⟨hmem, hlow⟩, Option.getD_some]

/-- For the entry of the root taken, no qualifying root lies fewer steps above the bass (R34). -/
theorem rootFor_nearest {notes : List Nat} {set : PitchSet} {r r' : Nat} (h : rootFor notes set = some r) (hr' : r' < 12)
    (hq : qualifies notes set r' = true) :
    (r + 12 - bassClass notes) % 12 ≤ (r' + 12 - bassClass notes) % 12 := by
  obtain ⟨d, hd, hr, -, hmin⟩ := rootFor_eq_some.mp h
  have hb : bassClass notes < 12 := Nat.mod_lt _ (by decide)
  have er' : (bassClass notes + (r' + 12 - bassClass notes) % 12) % 12 = r' := by omega
  by_contra hlt
  have hno := hmin ((r' + 12 - bassClass notes) % 12) (by omega)
  rw [er', hq] at hno
  cases hno

/-- Settles O39: the entry by the search over the templates, the root by the search upward from the bass. -/
theorem recognitionChoosesTheChord : Obligations.RecognitionChoosesTheChord := by
  unfold Obligations.RecognitionChoosesTheChord
  refine ⟨fun k t => k.template_eq, fun k _ => ?_⟩
  dsimp only
  simp only [← qualifies_iff]
  refine ⟨fun t r h => ?_, fun h t r ⟨ht, hr, hq⟩ =>
    not_qualifies_of_rootFor_eq_none hr (KeyContext.rootFor_of_recognise_eq_none h ht) hq⟩
  obtain ⟨ht, hroot, hmin⟩ := KeyContext.recognise_eq_some h
  obtain ⟨-, -, -, hq, -⟩ := rootFor_eq_some.mp hroot
  refine ⟨⟨ht, rootFor_lt hroot, hq⟩, fun t' r' ⟨_, hr', hq'⟩ => ?_, fun low r' hmem hlow ⟨_, hr', hq'⟩ => ?_⟩
  · exact Nat.le_of_not_lt fun hlt => not_qualifies_of_rootFor_eq_none hr' (hmin t' hlt) hq'
  · rw [← bassClass_eq hmem hlow]
    exact rootFor_nearest hroot hr' hq'

/-! ### The law of the Key Context Unit (Safety.lean) -/

section
variable {k : KeyContext} (hk : k.Ok)
include hk

theorem KeyContext.setNotes_ok {notes : List Nat} (hl : notes.length ≤ 10) (hd : notes.Nodup) (hb : ∀ n ∈ notes, n ≤ 127) :
    KeyContext.Ok { k with notes := notes } := by
  obtain ⟨-, -, -, h⟩ := hk
  exact ⟨hl, hd, hb, h⟩

theorem KeyContext.setContext_ok {c : ChordContext} (hc : ∀ x ∈ c.chord?, x.1 ≤ 11 ∧ x.2 ≤ 11) :
    KeyContext.Ok { k with context := c } := by
  obtain ⟨hl, hd, hb, hs, ht, -⟩ := hk
  exact ⟨hl, hd, hb, hs, ht, hc⟩

/-- A recognised chord has a root and an entry in range (R34, R37). -/
theorem KeyContext.runRecognition_ok (overflow : Bool) : (k.runRecognition overflow).key.Ok := by
  unfold KeyContext.runRecognition
  split
  · next t r h =>
    obtain ⟨ht, hroot, -⟩ := KeyContext.recognise_eq_some h
    have hr := rootFor_lt hroot
    refine setContext_ok hk ?_
    rintro x ⟨⟩
    exact ⟨Nat.le_of_lt_succ hr, Nat.le_of_lt_succ ht⟩
  · exact hk

/-- A release keeps the chord's root and entry, or leaves none (R36). -/
theorem KeyContext.releaseChord_ok : k.releaseChord.key.Ok := by
  unfold KeyContext.releaseChord
  split
  · exact hk
  · next r t hc _ =>
    have ⟨_, _, _, _, _, hchord⟩ := hk
    exact setContext_ok hk (by rw [hc] at hchord; exact hchord)
  · exact hk
  · exact setContext_ok hk nofun

/-- NOTE ON keeps the law: a new note joins the set of at most ten, in place of the oldest where ten are held (R25, R26). -/
theorem KeyContext.noteOn_ok {n : Nat} (hn : n ≤ 127) : (k.noteOn n).2.key.Ok := by
  have ⟨hl, hd, hb, _⟩ := hk
  have joins {l : List Nat} (hs : l.Sublist k.notes) (hlen : l.length < 10) (hnew : n ∉ k.notes) :
      KeyContext.Ok { k with notes := l ++ [n] } := by
    refine setNotes_ok hk (by simpa using hlen) ?_ ?_
    · rw [← List.concat_eq_append]
      exact (hd.sublist hs).concat fun h => hnew (hs.subset h)
    · intro m hm
      rcases List.mem_append.mp hm with hm | hm
      · exact hb m (hs.subset hm)
      · rw [List.mem_singleton.mp hm]
        exact hn
  unfold KeyContext.noteOn
  split
  · exact hk
  · next hnew =>
    split
    · next hroom => exact runRecognition_ok (joins (.refl _) hroom hnew) _
    · exact runRecognition_ok (joins (List.tail_sublist _) (by rw [List.length_tail]; omega) hnew) _

/-- NOTE OFF keeps the law: the note leaves the set (R27). -/
theorem KeyContext.noteOff_ok (n : Nat) : (k.noteOff n).2.key.Ok := by
  have ⟨hl, hd, hb, _⟩ := hk
  unfold KeyContext.noteOff
  split
  · dsimp only
    split
    · exact releaseChord_ok (setNotes_ok hk (by simp) .nil nofun)
    · have hs : (k.notes.erase n).Sublist k.notes := List.erase_sublist
      exact runRecognition_ok (setNotes_ok hk (hs.length_le.trans hl) (hd.sublist hs) fun m hm => hb m (hs.subset hm)) _
  · exact hk

theorem KeyContext.clearNotes_ok : k.clearNotes.key.Ok :=
  setContext_ok (setNotes_ok hk (notes := []) (by simp) .nil nofun) nofun

/-- A stored set has class 0 added (R30). -/
theorem KeyContext.setScale_ok (entry : Nat) (set : PitchSet) : (k.setScale entry set).Ok := by
  obtain ⟨hl, hd, hb, hs, h⟩ := hk
  refine ⟨hl, hd, hb, ?_, h⟩
  simp only [List.all_eq_true] at hs ⊢
  intro x hx
  rw [KeyContext.setScale, Vector.toList_setIfInBounds] at hx
  rcases List.mem_or_eq_of_mem_set hx with hx | rfl
  · exact hs x hx
  · simp

/-- A stored template has class 0 added and its scale index clamped (R32). -/
theorem KeyContext.setTemplate_ok (entry : Nat) (set : PitchSet) (index : Nat) : (k.setTemplate entry set index).Ok := by
  obtain ⟨hl, hd, hb, hs, ht, hc⟩ := hk
  refine ⟨hl, hd, hb, hs, ?_, hc⟩
  simp only [List.all_eq_true] at ht ⊢
  intro x hx
  rw [KeyContext.setTemplate, Vector.toList_setIfInBounds] at hx
  rcases List.mem_or_eq_of_mem_set hx with hx | rfl
  · exact ht x hx
  · simp [clampNat_le (by decide : 0 ≤ 15) index]

end

/-- A reset leaves the unit at its defaults, or keeps its tables and empties set and context (R44). -/
theorem KeyContext.atReset_ok {k : KeyContext} (hk : k.Ok) (keep : Bool) : (k.atReset keep).Ok := by
  unfold KeyContext.atReset
  split
  · exact clearNotes_ok hk
  · exact keyDefaults_ok

/-! ### The requests' work -/

/-- The unit's result in the state: its key unit, and the notices it raised, overflow first (R41). -/
theorem State.applyKey_eq (s : State) (r : KeyResult) :
    s.applyKey r = { s with
      key := r.key
      notices := s.notices.raised
        [(r.overflow, .setOverflow), (r.changed, .chordChanged), (r.unrecognised, .chordUnrecognized)] } := by
  simp [State.applyKey, State.raiseIf_eq, Notices.raised]

theorem noteWork_keyOk (a : Byte × Byte) {s : State} (hs : s.key.Ok) : (noteWork a s).1.key.Ok := by
  unfold noteWork
  split
  · exact hs
  · next hn =>
    have hn : a.1.toNat ≤ 127 := by omega
    dsimp only
    rw [State.applyKey_eq]
    dsimp only
    split
    · exact KeyContext.noteOn_ok hs hn
    · exact KeyContext.noteOff_ok hs _

theorem notesClearWork_keyOk (a : Unit) {s : State} (hs : s.key.Ok) : (notesClearWork a s).1.key.Ok := by
  rw [notesClearWork, State.applyKey_eq]
  exact KeyContext.clearNotes_ok hs

theorem setScaleWork_keyOk (a : Byte × Byte × Byte) {s : State} (hs : s.key.Ok) : (setScaleWork a s).1.key.Ok := by
  unfold setScaleWork
  split
  · exact hs
  · exact KeyContext.setScale_ok hs _ _

theorem setTemplateWork_keyOk (a : Byte × Byte × Byte × Byte) {s : State} (hs : s.key.Ok) :
    (setTemplateWork a s).1.key.Ok := by
  unfold setTemplateWork
  split
  · exact hs
  · exact KeyContext.setTemplate_ok hs _ _ _

theorem chordPolicyWork_keyOk (a : Byte) {s : State} (hs : s.key.Ok) : (chordPolicyWork a s).1.key.Ok := by
  unfold chordPolicyWork
  split <;> exact hs

/-! ### Every command -/

/-- A dispatched request whose work keeps the law of the Key Context Unit. -/
theorem dispatch_keyOk {α : Type} {kind seq : Byte} {payload : List Byte} {parse : List Byte → Option α}
    {work : α → State → State × Reply} {s : State} (hs : s.key.Ok) (hwork : ∀ a u, u.key.Ok → (work a u).1.key.Ok) :
    (dispatch kind seq payload parse work s).key.Ok :=
  dispatch_keeps (P := fun s => s.key.Ok) (fun _ _ h => h) hwork hs

/-- The law where the Key Context Unit does not change. -/
theorem State.keyOk_of_changesOnly {l : List Block} {s t : State} (hs : s.key.Ok) (h : s.ChangesOnly l t)
    (hl : decide (Block.key ∉ l) = true) : t.key.Ok := by
  have e : t.key = s.key := h.2 .key (of_decide_eq_true hl)
  rw [e]
  exact hs

/-- Every command keeps the law of the Key Context Unit. -/
theorem exec_keyOk {c : Instr} {s t : State} (hs : s.key.Ok) (h : exec c s = .next t) : t.key.Ok := by
  cases c with
  | powerOnReset _ | pinReset _ => cases h; exact KeyContext.atReset_ok hs _
  | softReset _ =>
    cases h
    split
    · exact KeyContext.atReset_ok hs _
    · exact hs
  | note _ _ => cases h; exact dispatch_keyOk hs fun a _ hu => noteWork_keyOk a hu
  | notesClear _ _ => cases h; exact dispatch_keyOk hs fun a _ hu => notesClearWork_keyOk a hu
  | setScale _ _ => cases h; exact dispatch_keyOk hs fun a _ hu => setScaleWork_keyOk a hu
  | setTemplate _ _ => cases h; exact dispatch_keyOk hs fun a _ hu => setTemplateWork_keyOk a hu
  | setChordPolicy _ _ => cases h; exact dispatch_keyOk hs fun a _ hu => chordPolicyWork_keyOk a hu
  | _ => exact State.keyOk_of_changesOnly hs (exec_changesOnly h) rfl

/-- Settles O55: only the resets and five requests change the unit, and each keeps its law. -/
theorem keyContextLawKept : Obligations.KeyContextLawKept := by
  unfold Obligations.KeyContextLawKept
  exact fun s t hs h => step_keeps (P := fun s => s.key.Ok) (fun _ _ h => h) (fun _ _ _ => exec_keyOk) hs h

end Sys2Proof.Machine
end

section
/-! Proofs: the NOTE request (R24 to R27, R33 to R36). -/

namespace Sys2Proof.Machine

/-! ### Recognition and release, case by case -/

section
variable {k : KeyContext}

theorem KeyContext.runRecognition_some {t r : Nat} (h : k.recognise = some (t, r)) (overflow : Bool) :
    k.runRecognition overflow =
      ⟨{ k with context := .active r t }, k.context.chord? ≠ some (r, t), false, overflow⟩ := by
  rw [KeyContext.runRecognition, h]

theorem KeyContext.runRecognition_none (h : k.recognise = none) (overflow : Bool) :
    k.runRecognition overflow = ⟨k, false, true, overflow⟩ := by
  rw [KeyContext.runRecognition, h]

theorem KeyContext.releaseChord_none (h : k.context = .none) :
    k.releaseChord = ⟨{ k with context := .none }, false, false, false⟩ := by
  obtain ⟨notes, context, scales, templates, policy⟩ := k
  cases h
  rfl

/-- Under CLEAR the release empties the context (R36). -/
theorem KeyContext.releaseChord_clear (hp : k.policy = .clear) (h : k.context ≠ .none) :
    k.releaseChord = ⟨{ k with context := .none }, true, false, false⟩ := by
  obtain ⟨notes, context, scales, templates, policy⟩ := k
  cases hp
  cases context with
  | none => exact absurd rfl h
  | active r t => rfl
  | latched r t => rfl

/-- Under LATCH the release keeps the chord LATCHED (R36). -/
theorem KeyContext.releaseChord_latch {r t : Nat} (hp : k.policy = .latch) (h : k.context.chord? = some (r, t)) :
    k.releaseChord = ⟨{ k with context := .latched r t }, false, false, false⟩ := by
  obtain ⟨notes, context, scales, templates, policy⟩ := k
  cases hp
  cases context with
  | none => cases h
  | active r' t' => cases h; rfl
  | latched r' t' => cases h; rfl

end

/-! ### The note set, case by case (R25 to R27) -/

section
variable {k : KeyContext} {n : Nat}

theorem KeyContext.noteOn_held (h : n ∈ k.notes) : k.noteOn n = (.alreadyHeld, ⟨k, false, false, false⟩) := if_pos h

theorem KeyContext.noteOn_room (h : n ∉ k.notes) (hl : k.notes.length < 10) :
    k.noteOn n = (.added, { k with notes := k.notes ++ [n] }.runRecognition false) := by
  rw [KeyContext.noteOn, if_neg h, if_pos hl]

/-- In a full set the new note takes the place of the oldest (R26). -/
theorem KeyContext.noteOn_full {oldest : Nat} {others : List Nat} (h : n ∉ k.notes) (he : k.notes = oldest :: others)
    (hl : k.notes.length = 10) :
    k.noteOn n = (.addedWithEviction oldest, { k with notes := others ++ [n] }.runRecognition true) := by
  rw [KeyContext.noteOn, if_neg h, if_neg (by omega), he]
  rfl

theorem KeyContext.noteOff_absent (h : n ∉ k.notes) : k.noteOff n = (.notHeld, ⟨k, false, false, false⟩) := if_neg h

theorem KeyContext.noteOff_others (h : n ∈ k.notes) (he : k.notes.erase n ≠ []) :
    k.noteOff n = (.removed, { k with notes := k.notes.erase n }.runRecognition false) := by
  rw [KeyContext.noteOff, if_pos h, if_neg he]

theorem KeyContext.noteOff_last (h : n ∈ k.notes) (he : k.notes.erase n = []) :
    k.noteOff n = (.removed, { k with notes := [] }.releaseChord) := by
  rw [KeyContext.noteOff, if_pos h, if_pos he]

end

/-! ### The request -/

theorem exec_note (seq : Byte) (p : List Byte) (s : State) :
    exec (.note seq p) s = .next (dispatch 0x20 seq p twoPayload noteWork s) := rfl

/-- What a NOTE request does to the unit: ON for action 01h, else OFF (R24). -/
def KeyContext.noteAction (k : KeyContext) (n a : Byte) : NoteAction × KeyResult :=
  if a = 1 then k.noteOn n.toNat else k.noteOff n.toNat

/-- The state after a NOTE request that leaves a note set, a context and notices, with its reply (9.5). -/
def State.afterNote (s : State) (seq : Byte) (rest : List FifoEntry) (action : NoteAction) (notes : List Nat)
    (context : ChordContext) (u : Notices) : State :=
  { s with key := { s.key with notes := notes, context := context }, notices := u }.answered rest
    (replyTo 0x20 seq .ok (action.bytes ++ [byteOfNat notes.length] ++ context.bytes))

section
variable {seq n a : Byte} {rest : List FifoEntry} {s : State}

theorem note_refuses (h : s.Takes (.frame 0x20 seq [n, a]) rest) (hbad : 127 < n.toNat ∨ (a ≠ 0 ∧ a ≠ 1)) :
    exec (.note seq [n, a]) s = .next (s.answered rest (replyTo 0x20 seq .badField [])) :=
  exec_answers (exec_note ..) h s (.bare .badField) (a := (n, a)) rfl (if_pos hbad)

section
variable (h : s.Takes (.frame 0x20 seq [n, a]) rest) (hn : n.toNat ≤ 127) (ha : a = 0 ∨ a = 1)
include h hn ha

/-- A NOTE request that is not refused, from the unit's result (R24). -/
theorem note_answers {action : NoteAction} {notes : List Nat} {context : ChordContext} {changed unrecognised overflow : Bool}
    (hr : s.key.noteAction n a =
      (action, ⟨{ s.key with notes := notes, context := context }, changed, unrecognised, overflow⟩)) :
    exec (.note seq [n, a]) s = .next (s.afterNote seq rest action notes context (s.notices.raised
      [(overflow, .setOverflow), (changed, .chordChanged), (unrecognised, .chordUnrecognized)])) := by
  have hok : ¬(127 < n.toNat ∨ (a ≠ 0 ∧ a ≠ 1)) := by
    rintro (h1 | ⟨h0, h1⟩)
    · omega
    · exact ha.elim h0 h1
  refine exec_answers (exec_note ..) h
    { s with
      key := { s.key with notes := notes, context := context }
      notices := s.notices.raised
        [(overflow, .setOverflow), (changed, .chordChanged), (unrecognised, .chordUnrecognized)] }
    (.ok (action.bytes ++ [byteOfNat notes.length] ++ context.bytes)) (a := (n, a)) rfl ?_
  rw [noteWork, if_neg hok]
  rw [KeyContext.noteAction] at hr
  dsimp only
  rw [hr, State.applyKey_eq]

/-- A NOTE request whose set is then recognised or not (R33 to R35). -/
theorem note_recognises {action : NoteAction} {notes : List Nat} {overflow : Bool} {u : Notices}
    (hr : s.key.noteAction n a = (action, { s.key with notes := notes }.runRecognition overflow))
    (hu : u = if overflow then s.notices.raise .setOverflow else s.notices) :
    match KeyContext.recognise { s.key with notes := notes } with
    | some (t, r) => exec (.note seq [n, a]) s = .next (s.afterNote seq rest action notes (.active r t)
        (if s.key.context.chord? = some (r, t) then u else u.raise .chordChanged))
    | none => exec (.note seq [n, a]) s = .next (s.afterNote seq rest action notes s.key.context
        (u.raise .chordUnrecognized)) := by
  split
  · next t r hrec =>
    rw [KeyContext.runRecognition_some hrec] at hr
    rw [note_answers h hn ha hr, hu]
    by_cases hc : s.key.context.chord? = some (r, t) <;> simp [Notices.raised, hc]
  · next hrec =>
    rw [KeyContext.runRecognition_none hrec] at hr
    rw [note_answers h hn ha hr, hu]
    rfl

end
end

/-- Settles O38: the unit's result by the cases of R24 to R27 and R36, then recognition's two outcomes. -/
theorem noteRequests : Obligations.NoteRequests := by
  unfold Obligations.NoteRequests
  intro seq n a rest s h
  refine ⟨note_refuses h, fun hn ha => ?_, fun hn ha => ?_⟩ <;> subst ha
  · have hon {x} (e : s.key.noteOn n.toNat = x) : s.key.noteAction n 1 = x := e
    refine ⟨fun hm => ?_, fun hm hl => ?_, fun oldest others hm he hl => ?_⟩
    · exact note_answers h hn (.inr rfl) (hon (KeyContext.noteOn_held hm))
    · exact note_recognises h hn (.inr rfl) (hon (KeyContext.noteOn_room hm hl)) rfl
    · exact note_recognises h hn (.inr rfl) (hon (KeyContext.noteOn_full hm he hl)) rfl
  · have hoff {x} (e : s.key.noteOff n.toNat = x) : s.key.noteAction n 0 = x := e
    refine ⟨fun hm => ?_, fun hm he => ?_, fun hm he => ⟨fun hc => ?_, fun hp hc => ?_, fun r t hp hc => ?_⟩⟩
    · exact note_answers h hn (.inl rfl) (hoff (KeyContext.noteOff_absent hm))
    · exact note_recognises h hn (.inl rfl) (hoff (KeyContext.noteOff_others hm he)) rfl
    all_goals have hlast := hoff (KeyContext.noteOff_last hm he)
    · rw [KeyContext.releaseChord_none (k := { s.key with notes := [] }) hc] at hlast
      exact note_answers h hn (.inl rfl) hlast
    · rw [KeyContext.releaseChord_clear (k := { s.key with notes := [] }) hp hc] at hlast
      exact note_answers h hn (.inl rfl) hlast
    · rw [KeyContext.releaseChord_latch (k := { s.key with notes := [] }) hp hc] at hlast
      exact note_answers h hn (.inl rfl) hlast

end Sys2Proof.Machine
end

section
/-! Proofs: the removal of every cue, its results and notices (R141, R146, R147, R149, R151), and the clearing requests (R28,
R146, R150). -/

namespace Sys2Proof.Machine

/-! ### Raising sources (R175) -/

theorem Notices.raise_pending_getElem (u : Notices) (src : Source) {i : Nat} (hi : i < 6) :
    (u.raise src).pending[i] = if src.group = i then u.pending[i] ||| src.bit else u.pending[i] := by
  rw [Notices.raise, Vector.getElem_set]
  split
  · next h => simp only [Fin.getElem_fin, h]
  · rfl

/-- A source that is raised twice is pending once. -/
@[simp] theorem Notices.raise_raise_self (u : Notices) (a : Source) : (u.raise a).raise a = u.raise a := by
  have e : ((u.raise a).raise a).pending = (u.raise a).pending := by
    ext1 i hi
    simp only [raise_pending_getElem]
    split
    · rw [BitVec.or_assoc, BitVec.or_self]
    · rfl
  exact congrArg (fun p => { u with pending := p }) e

/-- The order in which sources are raised does not show. -/
theorem Notices.raise_comm (u : Notices) (a b : Source) : (u.raise a).raise b = (u.raise b).raise a := by
  have e : ((u.raise a).raise b).pending = ((u.raise b).raise a).pending := by
    ext1 i hi
    simp only [raise_pending_getElem]
    split <;> split
    · rw [BitVec.or_assoc, BitVec.or_assoc, BitVec.or_comm a.bit]
    all_goals rfl
  exact congrArg (fun p => { u with pending := p }) e

/-! ### Removing every cue -/

/-- One removal more: the Notice Unit after a removal that joined a list of so many, and then the other removals (R149,
R151). -/
theorem noticesAfter_succ (u : Notices) (src : Source) {listed : Nat} (h : listed ≤ 16) (leaving : Nat) :
    noticesAfter (if 16 ≤ listed then (u.raise src).raise .resultsOverflow else u.raise src) src (min 16 (listed + 1))
      leaving = noticesAfter u src listed (leaving + 1) := by
  rcases Nat.lt_or_eq_of_le h with hlt | rfl
  · have e : min 16 (listed + 1) + leaving = listed + (leaving + 1) := by omega
    rw [noticesAfter, noticesAfter, e, if_neg (by omega : ¬16 ≤ listed)]
    rcases Nat.eq_zero_or_pos leaving with rfl | hpos
    · simp [Nat.not_lt.mpr hlt]
    · simp [hpos.ne']
  · rw [noticesAfter, noticesAfter]
    rcases Nat.eq_zero_or_pos leaving with rfl | hpos
    · simp
    · simp [hpos.ne', hpos, Notices.raise_comm _ .resultsOverflow src]

theorem State.recordRemoval_notices (s : State) (c : Cue) (o : CueOutcome) :
    (s.recordRemoval c o).notices =
      if 16 ≤ s.cues.results.length then (s.notices.raise o.source).raise .resultsOverflow
      else s.notices.raise o.source := by
  simp [State.recordRemoval, State.raiseIf_notices]

theorem addResult_length_eq {rs : List CueResult} (h : rs.length ≤ 16) (e : CueResult) :
    (addResult rs e).length = min 16 (rs.length + 1) := by
  unfold addResult
  split
  · simp; omega
  · simp; omega

/-- The notices of recorded removals (R151). -/
theorem State.foldRemoval_notices (cs : List Cue) (o : CueOutcome) {s : State} (h : s.cues.results.length ≤ 16) :
    (cs.foldl (fun acc c => acc.recordRemoval c o) s).notices =
      noticesAfter s.notices o.source s.cues.results.length cs.length := by
  induction cs generalizing s with
  | nil => simp [noticesAfter]
  | cons c rest ih =>
    have hlen : (s.recordRemoval c o).cues.results.length = min 16 (s.cues.results.length + 1) := by
      rw [recordRemoval_cues]
      exact addResult_length_eq h _
    rw [List.foldl_cons, ih (by omega), hlen, recordRemoval_notices, noticesAfter_succ _ _ h, List.length_cons]

/-- The entry of the first cue to leave has joined the list; the list after the others is the same (R149). -/
theorem expectedResults_cons {rs : List CueResult} (h : rs.length ≤ 16) (counter : Nat) (o : CueOutcome) (c : Cue)
    (cs : List Cue) :
    expectedResults (addResult rs ⟨c.tag, o, c.state, c.resultCounter counter, false⟩) counter o cs =
      expectedResults rs counter o (c :: cs) := by
  unfold addResult expectedResults
  rw [List.mapIdx_cons]
  rcases Nat.lt_or_eq_of_le h with hlt | he
  · have e : rs.length + 1 + cs.length - 16 = rs.length + (cs.length + 1) - 16 := by omega
    have hk (k : Nat) : rs.length + 1 + k = rs.length + (k + 1) := by omega
    simp [hlt, hk, Nat.not_le.mpr hlt, Cue.resultCounter]
  · obtain ⟨x, xs, rfl⟩ := List.exists_cons_of_length_eq_add_one he
    have hx : xs.length = 15 := by simpa using he
    simp [hx, Cue.resultCounter]

/-- The results list after recorded removals (R149). -/
theorem resultsAfter_eq_expectedResults (cs : List Cue) (o : CueOutcome) {q : CueQueue} (h : q.results.length ≤ 16) :
    resultsAfter q o cs = expectedResults q.results q.counter o cs := by
  induction cs generalizing q with
  | nil => simp [resultsAfter, expectedResults, h]
  | cons c rest ih =>
    rw [← expectedResults_cons h]
    exact ih (q := { q with results := addResult q.results ⟨c.tag, o, c.state, c.resultCounter q.counter, false⟩ })
      (addResult_length _ h)

/-- All that removing every cue does: queue and counter are emptied, the results list and the notices take every removal
(R141, R146, R147). -/
theorem State.removeAll_eq {s : State} (h : s.cues.results.length ≤ 16) (o : CueOutcome) :
    s.removeAll o = { s with
      cues := { queue := [], counter := 0, results := expectedResults s.cues.results s.cues.counter o s.cues.queue }
      notices := noticesAfter s.notices o.source s.cues.results.length s.cues.queue.length } := by
  have hn : (s.removeAll o).notices = noticesAfter s.notices o.source s.cues.results.length s.cues.queue.length :=
    State.foldRemoval_notices _ _ h
  apply State.eq_of_fields <;> simp [resultsAfter_eq_expectedResults _ _ h, hn]

/-! ### The requests -/

theorem exec_notesClear (seq : Byte) (p : List Byte) (s : State) :
    exec (.notesClear seq p) s = .next (dispatch 0x21 seq p noPayload notesClearWork s) := rfl
theorem exec_clearCues (seq : Byte) (p : List Byte) (s : State) :
    exec (.clearCues seq p) s = .next (dispatch 0x43 seq p noPayload clearCuesWork s) := rfl
theorem exec_readCueResults (seq : Byte) (p : List Byte) (s : State) :
    exec (.readCueResults seq p) s = .next (dispatch 0x45 seq p noPayload readResultsWork s) := rfl

section
variable {seq : Byte} {rest : List FifoEntry} {s : State}

/-- NOTES CLEAR empties set and context (R28). -/
theorem notesClear_empties (h : s.Takes (.frame 0x21 seq []) rest) :
    exec (.notesClear seq []) s = .next ({ s with
      key := { s.key with notes := [], context := .none }
      notices := if s.key.context = ChordContext.none then s.notices else s.notices.raise .chordChanged }.answered rest
        (replyTo 0x21 seq .ok [])) := by
  refine exec_answers (exec_notesClear ..) h
    { s with
      key := { s.key with notes := [], context := .none }
      notices := if s.key.context = ChordContext.none then s.notices else s.notices.raise .chordChanged } (.ok []) rfl ?_
  rw [notesClearWork, State.applyKey_eq]
  by_cases hc : s.key.context = .none <;> simp [KeyContext.clearNotes, Notices.raised, hc]

/-- CLEAR CUES removes every cue as CLEARED (R146). -/
theorem clearCues_empties (h : s.Takes (.frame 0x43 seq []) rest) (hr : s.cues.results.length ≤ 16) :
    exec (.clearCues seq []) s = .next ({ s with
      cues := { queue := [], counter := 0,
                results := expectedResults s.cues.results s.cues.counter .cleared s.cues.queue }
      notices := noticesAfter s.notices .cueDiscarded s.cues.results.length s.cues.queue.length }.answered rest
        (replyTo 0x43 seq .ok [byteOfNat s.cues.queue.length])) := by
  exact exec_answers (exec_clearCues ..) h
    { s with
      cues := { queue := [], counter := 0,
                results := expectedResults s.cues.results s.cues.counter .cleared s.cues.queue }
      notices := noticesAfter s.notices .cueDiscarded s.cues.results.length s.cues.queue.length }
    (.ok [byteOfNat s.cues.queue.length]) (a := ()) rfl
    (Prod.ext (State.removeAll_eq (s := { s with link := { s.link with fifo := rest } }) hr .cleared) rfl)

/-- The six bytes of a results entry (R149, 9.5). -/
theorem CueResult.bytes_eq (e : CueResult) :
    e.bytes = [byteOfNat e.tag] ++ (match e.outcome with
      | .landed .trigger => [0, 0]
      | .landed .phrase => [0, 1]
      | .landed .deadline => [0, 2]
      | .landed .forced => [0, 3]
      | .cancelled => [1, 0xFF]
      | .cleared => [2, 0xFF]
      | .preempted => [3, 0xFF]
      | .queueAbort => [4, 0xFF]) ++ [match e.state with
      | .queued => 0
      | .armed => 1
      | .landing => 2, byteOfNat e.counter, if e.overflow then 1 else 0] := by
  obtain ⟨tag, outcome, state, counter, overflow⟩ := e
  cases outcome with
  | landed how => cases how <;> rfl
  | _ => rfl

end

/-- Settles O40, request by request. -/
theorem clearingRequests : Obligations.ClearingRequests := by
  unfold Obligations.ClearingRequests
  intro seq rest s
  refine ⟨notesClear_empties, fun h ⟨_, _, _, _, _, _, _, hr⟩ => clearCues_empties h hr, fun h => ?_⟩
  refine exec_answers (exec_readCueResults ..) h { s with cues := { s.cues with results := [] } } (.ok _) rfl
    (Prod.ext rfl (congrArg (fun p => Reply.ok (byteOfNat s.cues.results.length :: p)) ?_))
  exact List.flatMap_congr fun e _ => e.bytes_eq

end Sys2Proof.Machine
end

section
/-! Proofs: the reports on setup, context, Working Scene, cues and store (R42, R43, R126, R152, R155, R160, R163). -/

namespace Sys2Proof.Machine

/-! ### Bytes (R166) -/

/-- The two bytes a number is sent as, whatever its size. -/
theorem twoBytesNat_bytes (n : Nat) : twoBytesNat n = [byteOfNat (n / 256), byteOfNat (n % 256)] := by
  have hmod : twoBytesNat n = twoBytesNat (n % 65536) := congrArg twoBytes (BitVec.eq_of_toNat_eq (by simp))
  have hdiv : byteOfNat (n % 65536 / 256) = byteOfNat (n / 256) :=
    BitVec.eq_of_toNat_eq (by simp only [byteOfNat, BitVec.toNat_ofNat]; omega)
  rw [hmod, twoBytesNat_eq (Nat.mod_lt _ (by decide)), hdiv, Nat.mod_mod_of_dvd _ (by decide)]

/-- A pitch-class set is sent as the number its bits make. -/
theorem pitchSetBytes_eq (x : PitchSet) : pitchSetBytes x = twoBytesNat x.toNat :=
  congrArg twoBytes (BitVec.eq_of_toNat_eq (by simp))

theorem ReleasePolicy.byte_eq (p : ReleasePolicy) : p.byte = if p = .clear then 1 else 0 := by
  cases p <;> rfl

theorem CueLanding.byte_eq (l : CueLanding) : l.byte = if l = .atPhrase then 1 else 0 := by
  cases l <;> rfl

/-- The origin's bytes: its source, and the marks as a sum of the two bits (9.5). -/
theorem Origin.bytes_eq (o : Origin) :
    o.bytes = ((match o.source with
      | .default => [0, 0xFF, 0xFF, 0xFF]
      | .slot b i => [1, byteOfNat b, byteOfNat i, 0xFF]
      | .overlay b i _ => [2, byteOfNat b, byteOfNat i, 0xFF]
      | .inline => [3, 0xFF, 0xFF, 0xFF]
      | .cue t => [4, 0xFF, 0xFF, byteOfNat t]) : List Byte) ++
      ([(if o.edited then 1 else 0) + (match o.source with
        | .overlay _ _ true => 2
        | _ => 0)] : List Byte) := by
  obtain ⟨source, edited⟩ := o
  cases source with
  | overlay b i detached =>
    have hmarks : markByte edited ||| (markByte detached <<< 1) =
        (if edited then 1 else 0) + (if detached then 2 else 0) := by
      cases edited <;> cases detached <;> decide
    cases detached <;> simp [Origin.bytes, absentByte, hmarks]
  | _ => simp [Origin.bytes, absentByte, markByte]

/-! ### Lengths (9.5) -/

/-- A list of entries of one length has so many bytes. -/
theorem length_flatMap_const {α : Type} {f : α → List Byte} {n : Nat} (h : ∀ x, (f x).length = n) (l : List α) :
    (l.flatMap f).length = n * l.length := by
  rw [List.length_flatMap, funext h, List.map_const', List.sum_replicate, smul_eq_mul, Nat.mul_comm]

theorem Template.bytes_length (t : Template) : t.bytes.length = 3 := rfl

theorem ChordContext.bytes_length (c : ChordContext) : c.bytes.length = 3 := by
  cases c <;> rfl

theorem Cue.bytes_length (c : Cue) : c.bytes.length = 9 := by
  obtain ⟨tag, scene, source, trigger, landing, deadline, state⟩ := c
  cases source <;> cases trigger <;> rfl

/-- A scene record has 58 bytes (9.7). -/
theorem Scene.bytes_length {sc : Scene} (h : sc.name.length = 12) : sc.bytes.length = 58 := by
  simp [Scene.bytes, VoiceRule.bytes, twoBytesNat_bytes, h]

theorem Origin.bytes_length (o : Origin) : o.bytes.length = 5 := by
  obtain ⟨source, edited⟩ := o
  cases source <;> rfl

/-- The operation record has nine bytes (R163). -/
theorem opBytes_length (op : Option StoreOp) : (opBytes op).length = 9 := by
  rcases op with _ | ⟨work, status, elapsed, pulses, pulsing, pulseMicros⟩
  · rfl
  · rcases work with ⟨b, i, record, stage⟩ | ⟨b, stage⟩ <;> cases stage <;> rfl

/-! ### Requests that only report -/

/-- A request that only reports: its reply, with the report's bytes, and no other change. -/
theorem exec_reports {c : Instr} {kind seq : Byte} {report : Unit → State → Reply} {s : State} {rest : List FifoEntry}
    {bytes : List Byte} {n : Nat} (hc : exec c s = .next (dispatchRead kind seq [] noPayload report s))
    (hlink : report () { s with link := { s.link with fifo := rest } } = report () s) (hb : report () s = .ok bytes)
    (hl : (report () s).payload.length = n) (h : s.Takes (.frame kind seq []) rest) :
    bytes.length = n ∧ exec c s = .next (s.answered rest (replyTo kind seq .ok bytes)) := by
  rw [hb] at hlink hl
  exact ⟨hl, exec_answers hc h s (.ok bytes) (a := ()) rfl (Prod.ext rfl hlink)⟩

theorem setupReport_length (s : State) : (setupReport () s).payload.length = 80 := by
  simp [setupReport, Reply.ok, TrackerSettings.bytes, twoBytesNat_bytes, Vector.length_toList,
    length_flatMap_const (n := 2) (f := pitchSetBytes) fun _ => rfl, length_flatMap_const Template.bytes_length]

theorem contextReport_length {s : State} (h : s.key.notes.length ≤ 10) : (contextReport () s).payload.length = 20 := by
  have hchord : ((s.key.chordTones.map pitchSetBytes).getD absentTwo).length = 2 := by
    cases s.key.chordTones <;> rfl
  simp [contextReport, Reply.ok, ChordContext.bytes_length, hchord, PlanningView.keyBytes]
  omega

theorem readWorkingReport_length {s : State} (h : s.working.scene.name.length = 12) :
    (readWorkingReport () s).payload.length = 64 := by
  simp [readWorkingReport, Reply.ok, Scene.bytes_length h, Origin.bytes_length]

theorem listCuesReport_length (s : State) : (listCuesReport () s).payload.length = 2 + 9 * s.cues.queue.length := by
  rw [listCuesReport, Reply.ok, List.length_append, length_flatMap_const Cue.bytes_length]
  rfl

/-- Ten places for the held notes, the unused ones absent (R42). -/
theorem take_ten_notes {notes : List Nat} (h : notes.length ≤ 10) :
    (notes.map byteOfNat ++ List.replicate 10 absentByte).take 10 =
      notes.map byteOfNat ++ List.replicate (10 - notes.length) absentByte := by
  rw [List.take_append, List.length_map, List.take_of_length_le (by simpa using h), List.take_replicate,
    Nat.min_eq_left (Nat.sub_le ..)]

/-- READ CONTEXT's bytes, read off the planning view (R39, R42). -/
theorem contextReport_eq {s : State} (h : s.key.notes.length ≤ 10) :
    contextReport () s = .ok ([byteOfNat s.key.notes.length] ++
      (s.key.notes.map byteOfNat ++ List.replicate 10 absentByte).take 10 ++ s.key.context.bytes ++
      (match (s.key.view s.working.scene).chordTones with
        | some x => pitchSetBytes x
        | none => absentTwo) ++
      (s.key.policy.byte :: (s.key.view s.working.scene).keyBytes)) := by
  rw [contextReport, take_ten_notes h, KeyContext.view_chordTones, ← List.append_assoc [byteOfNat _],
    List.append_assoc _ [s.key.policy.byte]]
  cases s.key.chordTones <;> rfl

/-! ### STORE STATUS (R155, R160, R163) -/

/-- Time counted on an operation: the stretch up to the end of its pulse, and of the pulse where one is in progress (R155, R158,
R159). -/
theorem StoreOp.pass_eq_counted (o : StoreOp) (stretch : Nat) :
    o.pass stretch = { o with
      elapsedMicros := o.elapsedMicros + o.counted stretch
      pulseMicros :=
        if o.pulsing || (match o.work with | .erase _ (.pulse _) => true | _ => false)
        then o.pulseMicros + o.counted stretch else o.pulseMicros } := by
  obtain ⟨work, status, elapsed, pulses, pulsing, pulseMicros⟩ := o
  rcases work with ⟨b, i, record, stage⟩ | ⟨b, stage | stage | stage⟩ <;> cases pulsing <;> rfl

/-- The operation abandoned, said field by field (R160, R161). -/
theorem State.failOp_eq_abandoned (s : State) (o : StoreOp) (c : FailureCause) (elapsed : Nat) :
    s.failOp { o with elapsedMicros := elapsed } c = s.abandoned o c s.store.supplyHigh elapsed := by
  cases hl : s.store.latch <;> simp [State.failOp, State.abandoned, State.raiseIf_eq, StoreOp.cut, hl]

/-- The time before a STORE STATUS, said from the operation record (R155, log 7). -/
theorem State.passToStatus_eq_atStatus (s : State) (stretch : Nat) : s.passToStatus stretch = s.atStatus stretch := by
  unfold State.passToStatus State.atStatus SceneStore.current
  cases ho : s.store.op with
  | none => rfl
  | some o =>
    dsimp only
    by_cases hf : o.status = .inFlight
    · rw [if_pos hf, if_neg (not_not.mpr hf)]
      dsimp only
      rw [State.failOp_eq_abandoned, StoreOp.pass_eq_counted]
      rfl
    · rw [if_neg hf, if_pos hf]

/-- Of the store the time before a STORE STATUS changes the operation record and the latch, and beside it the notices. -/
theorem State.atStatus_frame (s : State) (stretch : Nat) :
    s.atStatus stretch = { s with
      store := { s.store with op := (s.atStatus stretch).store.op, latch := (s.atStatus stretch).store.latch }
      notices := (s.atStatus stretch).notices } := by
  unfold State.atStatus
  split
  · rfl
  · dsimp only
    split
    · rfl
    · split <;> rfl

theorem State.atStatus_link (s : State) (stretch : Nat) : (s.atStatus stretch).link = s.link := by
  rw [State.atStatus_frame]

/-- The link has no part in the time that is counted. -/
theorem State.atStatus_setLink (s : State) (l : Link) (stretch : Nat) :
    State.atStatus { s with link := l } stretch = { s.atStatus stretch with link := l } := by
  unfold State.atStatus
  dsimp only
  split
  · rfl
  · split
    · rfl
    · split <;> rfl

/-- STORE STATUS reports the store as it is once the time has been counted (R155, R163). -/
theorem storeStatus_answers {seq : Byte} {since : Nat} {rest : List FifoEntry} {s : State}
    (h : s.Takes (.frame 0x53 seq []) rest) :
    exec (.storeStatus seq ⟨[], since⟩) s = .next ((s.atStatus since).answered rest
      (replyTo 0x53 seq .ok (storeStatusReport (s.atStatus since)).payload)) := by
  have hc : exec (.storeStatus seq ⟨[], since⟩) s =
      .next (dispatch 0x53 seq [] noPayload (storeStatusWork since) s) := rfl
  have hw := exec_answers hc h (s.atStatus since) (storeStatusReport (s.atStatus since)) (a := ()) rfl
    (by rw [storeStatusWork, State.passToStatus_eq_atStatus, State.atStatus_setLink]; rfl)
  have he : { s.atStatus since with link := s.link } = s.atStatus since := by rw [← State.atStatus_link s since]
  rw [he] at hw
  exact hw

theorem storeStatusReport_length (s : State) : (storeStatusReport s).payload.length = 80 := by
  simp [storeStatusReport, Reply.ok, opBytes_length, SceneStore.countBytes]

/-- The failure cause in one case distinction (R155, 9.7). -/
theorem OpStatus.causeByte_eq (status : OpStatus) :
    status.causeByte = match status with
      | .failed .verify => 0
      | .failed .timer => 1
      | .failed .supply => 2
      | _ => 0xFF := by
  cases status with
  | failed cause => cases cause <;> rfl
  | _ => rfl

/-- Of the report the operation record and the latch alone show the time that was counted (R155, R163). -/
theorem storeStatusReport_atStatus (s : State) (since : Nat) :
    storeStatusReport (s.atStatus since) = .ok (opBytes (s.atStatus since).store.op ++
      [markByte (s.atStatus since).store.latch, markByte s.store.frozen, markByte s.store.supplyHigh,
        match s.overlay.mapped with
          | some b => byteOfNat b
          | none => absentByte] ++
      s.store.table.toList.map SlotState.byte ++ s.store.countBytes) := by
  have hf := s.atStatus_frame since
  have hoverlay : (s.atStatus since).overlay = s.overlay := by rw [hf]
  have hfrozen : (s.atStatus since).store.frozen = s.store.frozen := by rw [hf]
  have hsupply : (s.atStatus since).store.supplyHigh = s.store.supplyHigh := by rw [hf]
  have htable : (s.atStatus since).store.table = s.store.table := by rw [hf]
  have hcounts : (s.atStatus since).store.countBytes = s.store.countBytes := by
    simp only [SceneStore.countBytes, SceneStore.count, htable]
  rw [storeStatusReport, hoverlay, hfrozen, hsupply, htable, hcounts]
  cases s.overlay.mapped <;> rfl

/-- STORE STATUS's reply, from its bytes written in another way. -/
theorem storeStatus_reports {seq : Byte} {since : Nat} {rest : List FifoEntry} {s : State} {bytes : List Byte}
    (h : s.Takes (.frame 0x53 seq []) rest) (hb : storeStatusReport (s.atStatus since) = .ok bytes) :
    bytes.length = 80 ∧
      exec (.storeStatus seq ⟨[], since⟩) s = .next ((s.atStatus since).answered rest (replyTo 0x53 seq .ok bytes)) := by
  have hl := storeStatusReport_length (s.atStatus since)
  have hw := storeStatus_answers h (since := since)
  rw [hb] at hl hw
  exact ⟨hl, hw⟩

/-- Settles O33: each report's bytes are those of the catalogue, and STORE STATUS shows the store at its moment. -/
theorem setupSceneCueAndStoreReports : Obligations.SetupSceneCueAndStoreReports := by
  unfold Obligations.SetupSceneCueAndStoreReports
  intro seq since rest s hsc hk
  obtain ⟨hnotes, -⟩ := hk
  obtain ⟨⟨hname, -⟩, -⟩ := Scene.ok_iff.mp hsc
  refine ⟨s.key.view s.working.scene, s.key.view_publishes _, ?_⟩
  simp only [← twoBytesNat_bytes, ← pitchSetBytes_eq, ← ReleasePolicy.byte_eq, ← CueLanding.byte_eq]
  refine ⟨?_, ?_, ?_, ?_, fun h => ?_⟩
  · exact exec_reports rfl rfl rfl (setupReport_length s)
  · exact exec_reports rfl rfl (contextReport_eq hnotes) (contextReport_length hnotes)
  · refine exec_reports rfl rfl ?_ (readWorkingReport_length hname)
    rw [readWorkingReport, Origin.bytes_eq, ← List.append_assoc, List.append_assoc _ [_] [_]]
    rfl
  · exact exec_reports rfl rfl rfl (listCuesReport_length s)
  · refine storeStatus_reports h ?_
    rw [storeStatusReport_atStatus]
    cases (s.atStatus since).store.op with
    | none => rfl
    | some o => rw [opBytes, OpStatus.causeByte_eq]; rfl

end Sys2Proof.Machine
end

section
/-! Proofs: lead note and snap, walks and voice modes, the fold (R47 to R58). -/

namespace Sys2Proof.Machine

/-! ### The lead note (R49) -/

theorem leadNote_kept {n p : Int} {hyst : Nat} (h : (p - 100 * n).natAbs ≤ 50 + hyst) : leadNote (some n) p hyst = n := if_pos h

theorem leadNote_rounded {prev : Option Int} {p : Int} {hyst : Nat}
    (h : ∀ n, prev = some n → 50 + hyst < (p - 100 * n).natAbs) : leadNote prev p hyst = (p + 50) / 100 := by
  cases prev with
  | none => rfl
  | some n => exact if_neg (Nat.not_le.mpr (h n rfl))

/-- The lead note is the previous one within its hysteresis, or the rounded pitch (R49). -/
theorem leadNote_cases (prev : Option Int) (p : Int) (hyst : Nat) :
    (p - 100 * leadNote prev p hyst).natAbs ≤ 50 + hyst ∨ leadNote prev p hyst = (p + 50) / 100 := by
  unfold leadNote
  split
  · split
    · next h => exact .inl h
    · exact .inr rfl
  · exact .inr rfl

/-! ### Members of a key (3.3) -/

/-- An octave apart, two notes have one class. -/
theorem inKey_add_twelve (tonic : Nat) (set : PitchSet) (m : Int) : inKey tonic set (m + 12) = inKey tonic set m := by
  rw [inKey, inKey, show (m + 12 - tonic) % 12 = (m - tonic) % 12 by omega]

/-- A note test passed by one of any twelve notes in a row, as a key's is. -/
def HasMemberPerOctave (mem : Int → Bool) : Prop := ∀ n : Int, ∃ d : Nat, d < 12 ∧ mem (n + d) = true

theorem inKey_hasMemberPerOctave (tonic : Nat) {set : PitchSet} (h : ∃ c, c < 12 ∧ set.getLsbD c = true) :
    HasMemberPerOctave (inKey tonic set) := by
  obtain ⟨c, hc, hset⟩ := h
  intro n
  refine ⟨((c - (n - tonic)) % 12).toNat, by omega, ?_⟩
  have hclass : ((n + ((c - (n - tonic)) % 12).toNat - tonic) % 12).toNat = c := by omega
  rw [inKey, hclass, hset]

/-! ### The snapped note (R51) -/

theorem mem_nearNotes {n m : Int} : m ∈ nearNotes n ↔ (n - m).natAbs ≤ 6 := by
  simp only [nearNotes, List.mem_cons, List.mem_flatMap, List.mem_range, List.not_mem_nil, or_false]
  constructor
  · rintro (rfl | ⟨d, hd, rfl | rfl⟩) <;> omega
  · intro h
    rcases lt_trichotomy m n with hlt | heq | hgt
    · exact .inr ⟨(n - m - 1).toNat, by omega, .inl (by omega)⟩
    · exact .inl heq
    · exact .inr ⟨(m - n - 1).toNat, by omega, .inr (by omega)⟩

/-- The order of nearness to `n`, the lower of two at one distance first. -/
def Nearer (n a b : Int) : Prop := (n - a).natAbs ≤ (n - b).natAbs ∧ ((n - a).natAbs = (n - b).natAbs → a ≤ b)

theorem nearNotes_pairwise (n : Int) : (nearNotes n).Pairwise (Nearer n) := by
  simp only [nearNotes, Nearer, List.range_succ, List.range_zero, List.nil_append, List.cons_append, List.flatMap_cons,
    List.flatMap_nil, List.pairwise_cons, List.forall_mem_cons, List.Pairwise.nil, List.not_mem_nil, false_imp_iff,
    implies_true, and_true, Nat.cast_ofNat, Nat.cast_zero, Nat.cast_one]
  omega

/-- What a search through an ordered list finds comes before every other that passes. -/
theorem find?_first {α : Type} {r : α → α → Prop} (hr : ∀ a, r a a) {l : List α} (hl : l.Pairwise r) {p : α → Bool} {a b : α}
    (ha : l.find? p = some a) (hb : b ∈ l) (hpb : p b = true) : r a b := by
  obtain ⟨-, before, after, rfl, hbefore⟩ := List.find?_eq_some_iff_append.mp ha
  rcases List.mem_append.mp hb with hb | hb
  · exact absurd hpb (by simpa using hbefore b hb)
  · rcases List.mem_cons.mp hb with rfl | hb
    · exact hr _
    · exact List.rel_of_pairwise_cons (List.pairwise_append.mp hl).2.1 hb

/-- In a key with its tonic the snapped note is a member within six semitones, before every other such member (R51). -/
theorem snap_spec (tonic : Nat) {set : PitchSet} (n : Int) (h0 : set.getLsbD 0 = true) :
    inKey tonic set (snap tonic set n) = true ∧ (n - snap tonic set n).natAbs ≤ 6 ∧
      ∀ m, inKey tonic set m = true → (n - m).natAbs ≤ 6 → Nearer n (snap tonic set n) m := by
  obtain ⟨d, hd, hmem⟩ := inKey_hasMemberPerOctave tonic ⟨0, by decide, h0⟩ (n - 6)
  cases hq : (nearNotes n).find? (inKey tonic set) with
  | none => exact absurd hmem (List.find?_eq_none.mp hq _ (mem_nearNotes.mpr (by omega)))
  | some q =>
    rw [snap, hq, Option.getD_some]
    exact ⟨List.find?_some hq, mem_nearNotes.mp (List.mem_of_find?_eq_some hq),
      fun m hm hnear => find?_first (fun _ => ⟨le_rfl, fun _ => le_rfl⟩) (nearNotes_pairwise n) hq (mem_nearNotes.mpr hnear) hm⟩

/-- Settles O16: the two cases of R49, and the snapped note as the first member in order of nearness. -/
theorem leadNoteAndSnap : Obligations.LeadNoteAndSnap := by
  unfold Obligations.LeadNoteAndSnap
  refine ⟨fun prev p hyst => ?_, fun _ _ _ => Iff.rfl, fun tonic set n h0 => ?_⟩
  · refine ⟨fun n hn h => ?_, fun h => ?_, fun h => ?_⟩
    · rw [hn, leadNote_kept h]
    · rw [leadNote_rounded h]
      omega
    · have := leadNote_cases prev p hyst
      omega
  · obtain ⟨hq, hnear, hfirst⟩ := snap_spec tonic n h0
    refine ⟨hq, fun hn => ?_, ?_, fun m hm => ?_⟩
    · have hclose := (hfirst n hn (by omega)).1
      exact (by omega : snap tonic set n = n)
    · have hlower : snap tonic set n ≠ n + 6 := fun he => by
        have hm : inKey tonic set (n - 6) = true := by
          rw [← inKey_add_twelve, show n - 6 + 12 = snap tonic set n by omega, hq]
        have := (hfirst _ hm (by omega)).2
        omega
      exact (by omega : -5 ≤ n - snap tonic set n ∧ n - snap tonic set n ≤ 6)
    · by_cases hm6 : (n - m).natAbs ≤ 6
      · exact hfirst m hm hm6
      · have hcloser : (n - snap tonic set n).natAbs < (n - m).natAbs := by omega
        exact ⟨hcloser.le, fun he => absurd he hcloser.ne⟩

/-! ### Walks (R52, R53) -/

/-- The direction of a walk as the step from note to note. -/
def walkStep (up : Bool) : Int := if up then 1 else -1

/-- The next note is a member at most an octave on, with no member passed before it. -/
theorem nextNote_spec {mem : Int → Bool} (h : HasMemberPerOctave mem) (up : Bool) (n : Int) :
    ∃ d : Nat, nextNote mem up n = n + walkStep up * (d + 1) ∧ mem (nextNote mem up n) = true ∧
      ∀ e : Nat, e < d → mem (n + walkStep up * (e + 1)) = false := by
  obtain ⟨k, hk, hmem⟩ : ∃ k : Nat, k < 12 ∧ mem (n + walkStep up * (k + 1)) = true := by
    cases up with
    | true =>
      obtain ⟨d, hd, hmem⟩ := h (n + 1)
      exact ⟨d, hd, by rw [show n + walkStep true * (d + 1) = n + 1 + d by simp only [walkStep, if_pos]; omega, hmem]⟩
    | false =>
      obtain ⟨d, hd, hmem⟩ := h (n - 12)
      refine ⟨11 - d, by omega, ?_⟩
      rw [show n + walkStep false * ((11 - d : Nat) + 1) = n - 12 + d by
        simp only [walkStep, Bool.false_eq_true, if_false]; omega, hmem]
  have hnext : nextNote mem up n =
      (((List.range 12).map fun (d : Nat) => n + walkStep up * ((d : Int) + 1)).find? mem).getD (n + walkStep up * 12) := rfl
  rw [hnext, List.find?_map]
  cases hd : (List.range 12).find? (mem ∘ fun (d : Nat) => n + walkStep up * ((d : Int) + 1)) with
  | none => exact absurd hmem (List.find?_eq_none.mp hd k (List.mem_range.mpr hk))
  | some d =>
    obtain ⟨hmemd, -, hbefore⟩ := List.find?_range_eq_some.mp hd
    exact ⟨d, rfl, hmemd, fun e he => by simpa using hbefore e he⟩

/-- The number of members passed on the first `k` steps from `n` (R52). -/
def membersPassed (mem : Int → Bool) (up : Bool) (n : Int) (k : Nat) : Nat :=
  (List.range k).countP fun (j : Nat) => mem (n + walkStep up * (j + 1))

theorem membersPassed_add (mem : Int → Bool) (up : Bool) (n : Int) (k i : Nat) :
    membersPassed mem up n (k + i) = membersPassed mem up n k + membersPassed mem up (n + walkStep up * k) i := by
  rw [membersPassed, List.range_add, List.countP_append, List.countP_map]
  congr 2
  funext j
  simp only [Function.comp_apply, Nat.cast_add]
  congr 1
  ring

theorem membersPassed_next {mem : Int → Bool} {up : Bool} {n : Int} {d : Nat}
    (hd : mem (n + walkStep up * (d + 1)) = true) (hbefore : ∀ e : Nat, e < d → mem (n + walkStep up * (e + 1)) = false) :
    membersPassed mem up n (d + 1) = 1 := by
  have hnone : (List.range d).countP (fun (j : Nat) => mem (n + walkStep up * (j + 1))) = 0 :=
    List.countP_eq_zero.mpr fun e he => by simpa using hbefore e (List.mem_range.mp he)
  rw [membersPassed, List.range_succ, List.countP_append, hnone]
  simp [hd]

/-- A walk passes as many members as it counts steps, and ends on the last of them (R52, R53). -/
theorem walk_spec {mem : Int → Bool} (h : HasMemberPerOctave mem) (up : Bool) (count : Nat) (n : Int) :
    ∃ k : Nat, walk mem up count n = n + walkStep up * k ∧ membersPassed mem up n k = count ∧
      (0 < count → mem (walk mem up count n) = true) := by
  induction count generalizing n with
  | zero => exact ⟨0, by simp [walk], rfl, fun h => absurd h (by decide)⟩
  | succ count ih =>
    obtain ⟨d, hnext, hmem, hbefore⟩ := nextNote_spec h up n
    obtain ⟨k, hwalk, hcount, hend⟩ := ih (nextNote mem up n)
    rw [hnext] at hcount
    refine ⟨d + 1 + k, ?_, ?_, fun _ => ?_⟩
    · rw [walk, hwalk, hnext]
      push_cast
      ring
    · rw [membersPassed_add, membersPassed_next (hnext ▸ hmem) hbefore, Nat.cast_succ, hcount, Nat.add_comm]
    · rcases Nat.eq_zero_or_pos count with rfl | hpos
      · exact hmem
      · exact hend hpos

/-! ### Voice modes (R47, R52 to R55) -/

theorem modeNote_chord_tones {l : Lead} {v : VoiceRule} {tones : PitchSet} (hv : v.mode = .chord)
    (ht : l.view.chordTones = some tones) :
    modeNote l v = some (walk (inKey 0 tones) (0 < v.amount) v.amount.natAbs l.snapped + (l.note - l.snapped)) := by
  simp only [modeNote, hv, chordNote, ht]
  split
  · next h => simp [h, walk]
  · rfl

/-- Without chord tones a CHORD voice walks twice as far over the scale (R54). -/
theorem modeNote_chord_scale {l : Lead} {v : VoiceRule} (hv : v.mode = .chord) (ht : l.view.chordTones = none) :
    modeNote l v = some (walk (inKey l.view.tonic l.view.scaleSet) (0 < v.amount) (2 * v.amount.natAbs) l.snapped +
      (l.note - l.snapped)) := by
  have hup : decide (0 < 2 * v.amount) = decide (0 < v.amount) := by simp
  simp only [modeNote, hv, chordNote, ht, scaleNote, hup, Int.natAbs_mul]
  rfl

/-- Settles O17: the walk upward and downward, then mode by mode. -/
theorem voiceModeNotes : Obligations.VoiceModeNotes := by
  unfold Obligations.VoiceModeNotes
  refine ⟨fun tonic set count n hset => ?_, fun l v => ⟨fun h => ?_, fun h => ?_, fun tones => modeNote_chord_tones,
    modeNote_chord_scale, fun h => ?_, fun h => ?_⟩⟩
  · obtain ⟨i, hup, hiCount, hiEnd⟩ := walk_spec (inKey_hasMemberPerOctave tonic hset) true count n
    obtain ⟨j, hdown, hjCount, hjEnd⟩ := walk_spec (inKey_hasMemberPerOctave tonic hset) false count n
    refine ⟨fun hpos => ⟨hiEnd hpos, hjEnd hpos⟩, ?_⟩
    simp only [membersPassed, walkStep, if_true, Bool.false_eq_true, if_false] at hup hdown hiCount hjCount
    rw [hup, hdown]
    refine ⟨by omega, by omega, ?_, ?_⟩
    · rw [show (n + 1 * (i : Int) - n).toNat = i by omega, ← hiCount]
      congr 2
      funext x
      congr 1
      omega
    · rw [show (n - (n + -1 * (j : Int))).toNat = j by omega, ← hjCount]
      congr 2
      funext x
      congr 1
      omega
  all_goals simp only [modeNote, h, scaleNote]

/-! ### The fold (R58) -/

/-- Settles O18: whole octaves are counted by the two quotients of the fold. -/
theorem foldIntoTheRange : Obligations.FoldIntoTheRange := by
  unfold Obligations.FoldIntoTheRange
  intro low high h hr
  refine ⟨fold_mem hr h, ?_⟩
  simp only [fold]
  split_ifs <;> omega

end Sys2Proof.Machine
end

section
/-! Proofs: collision resolution and the planner at a frame completion (R46, R56 to R70). -/

namespace Sys2Proof.Machine

/-! ### One voice against the notes of the earlier ones (R59 to R61) -/

section
variable {l : Lead} {v : VoiceRule} {taken : List Int} {h : Int}

theorem resolve_keeps (hk : h ∉ taken ∨ v.movable = false) : resolve l v taken h = ⟨some h, false⟩ := by
  unfold resolve
  split
  · rfl
  · next ht => simp [hk.resolve_left ht]

theorem resolve_once (ht : h ∈ taken) (hm : v.movable = true) (h1 : collisionMove l v h ∉ taken) :
    resolve l v taken h = ⟨some (collisionMove l v h), false⟩ := by
  simp [resolve, ht, hm, h1]

theorem resolve_twice (ht : h ∈ taken) (hm : v.movable = true) (h1 : collisionMove l v h ∈ taken)
    (h2 : collisionMove l v (collisionMove l v h) ∉ taken) :
    resolve l v taken h = ⟨some (collisionMove l v (collisionMove l v h)), false⟩ := by
  simp [resolve, ht, hm, h1, h2]

theorem resolve_doubled (ht : h ∈ taken) (hm : v.movable = true) (h1 : collisionMove l v h ∈ taken)
    (h2 : collisionMove l v (collisionMove l v h) ∈ taken) : resolve l v taken h = ⟨none, true⟩ := by
  simp [resolve, ht, hm, h1, h2]

/-- Resolution leaves a note that is free or the voice's own fixed one, or doubles a movable voice out (R59 to R61). -/
theorem resolve_cases (l : Lead) (v : VoiceRule) (taken : List Int) (h : Int) :
    (∃ n, resolve l v taken h = ⟨some n, false⟩ ∧ (n ∈ taken → v.movable = false)) ∨
      (resolve l v taken h = ⟨none, true⟩ ∧ v.movable = true ∧ taken ≠ []) := by
  by_cases hk : h ∉ taken ∨ v.movable = false
  · exact .inl ⟨h, resolve_keeps hk, fun ht => hk.resolve_left fun hn => hn ht⟩
  obtain ⟨ht, hm⟩ : h ∈ taken ∧ v.movable = true := by simpa using hk
  by_cases h1 : collisionMove l v h ∈ taken
  · by_cases h2 : collisionMove l v (collisionMove l v h) ∈ taken
    · exact .inr ⟨resolve_doubled ht hm h1 h2, hm, List.ne_nil_of_mem ht⟩
    · exact .inl ⟨_, resolve_twice ht hm h1 h2, fun hn => absurd hn h2⟩
  · exact .inl ⟨_, resolve_once ht hm h1, fun hn => absurd hn h1⟩

variable {avoid speaks : Bool}

theorem place_silent (hs : speaks = false ∨ modeNote l v = none) : place l avoid speaks v taken = ⟨none, false⟩ := by
  rcases hs with hs | hs <;> simp [place, hs]

theorem place_speaks {h0 : Int} (hs : speaks = true) (hn : modeNote l v = some h0) :
    place l avoid speaks v taken =
      if avoid then resolve l v taken (fold v.low v.high h0) else ⟨some (fold v.low v.high h0), false⟩ := by
  simp [place, hs, hn]

/-- What placing a voice can come to: no note, a note that it shares only where it is fixed or the flag is off, or doubled
out (R59 to R62). -/
theorem place_cases (l : Lead) (avoid speaks : Bool) (v : VoiceRule) (taken : List Int) :
    place l avoid speaks v taken = ⟨none, false⟩ ∨
      (∃ n, place l avoid speaks v taken = ⟨some n, false⟩ ∧ (avoid = true → n ∈ taken → v.movable = false)) ∨
      (place l avoid speaks v taken = ⟨none, true⟩ ∧ avoid = true ∧ v.movable = true ∧ taken ≠ []) := by
  by_cases hs : speaks = false ∨ modeNote l v = none
  · exact .inl (place_silent hs)
  obtain ⟨hsilent, hnone⟩ := not_or.mp hs
  have hspeaks : speaks = true := by simpa using hsilent
  obtain ⟨h0, hn⟩ := Option.ne_none_iff_exists'.mp hnone
  refine .inr ?_
  rw [place_speaks hspeaks hn]
  cases avoid with
  | false => exact .inl ⟨_, rfl, fun h => absurd h (by decide)⟩
  | true =>
    rcases resolve_cases l v taken (fold v.low v.high h0) with ⟨n, hr, hfixed⟩ | ⟨hr, hm, ht⟩
    · exact .inl ⟨n, hr, fun _ => hfixed⟩
    · exact .inr ⟨hr, rfl, hm, ht⟩

end

/-! ### The four voices in order (R59) -/

theorem Four.get_of_three_le {α : Type} (f : Four α) {i : Nat} (h : 3 ≤ i) : f.get i = f.get 3 := by
  obtain ⟨k, rfl⟩ := Nat.exists_eq_add_of_le' h
  rfl

/-- The notes planned for the voices before voice `i`. -/
def notesBefore (placed : Four Placed) (i : Nat) : List Int := (List.range i).flatMap fun j => (placed.get j).note.toList

theorem mem_notesBefore {placed : Four Placed} {i : Nat} {m : Int} :
    m ∈ notesBefore placed i ↔ ∃ j, j < i ∧ (placed.get j).note = some m := by
  simp [notesBefore]

section
variable (l : Lead) (avoid : Bool) (speaks : VoiceRule → Bool) (vs : Four VoiceRule)

/-- Each voice is placed against the notes of the voices before it (R59). -/
theorem placeAll_get {i : Nat} (hi : i < 4) : (placeAll l avoid speaks vs).get i =
    place l avoid (speaks (vs.get i)) (vs.get i) (notesBefore (placeAll l avoid speaks vs) i) := by
  have e : notesBefore (placeAll l avoid speaks vs) i = (List.range i).flatMap fun j =>
    ((placeAll l avoid speaks vs).get j).note.toList := rfl
  rw [e]
  match i, hi with
  | 0, _ => rfl
  | 1, _ => simp [placeAll, Four.get, List.range_succ]
  | 2, _ => simp [placeAll, Four.get, List.range_succ]
  | 3, _ => simp [placeAll, Four.get, List.range_succ]

/-- A number above 3 names voice 3, so every number names a voice that was placed. -/
theorem placeAll_get_place (i : Nat) : ∃ taken, (placeAll l avoid speaks vs).get i =
    place l avoid (speaks (vs.get i)) (vs.get i) taken ∧ (i = 0 → taken = []) := by
  rcases Nat.lt_or_ge i 4 with hi | hi
  · exact ⟨_, placeAll_get l avoid speaks vs hi, fun h => by rw [h]; rfl⟩
  · rw [Four.get_of_three_le _ (Nat.le_of_succ_le hi), Four.get_of_three_le vs (Nat.le_of_succ_le hi)]
    exact ⟨_, placeAll_get l avoid speaks vs (by decide), fun h => absurd h (by omega)⟩

end

/-! ### Collision moves (R56, R60) -/

theorem VoiceRule.movable_iff {v : VoiceRule} :
    v.movable = true ↔ (v.mode = .scale ∨ v.mode = .chord ∨ v.mode = .semitone) ∧ v.amount ≠ 0 := by
  simp [VoiceRule.movable, or_assoc]

theorem nextNote_mem {mem : Int → Bool} (h : HasMemberPerOctave mem) (up : Bool) (n : Int) : mem (nextNote mem up n) = true := by
  obtain ⟨_, _, hmem, _⟩ := nextNote_spec h up n
  exact hmem

/-- The next note upward lies above, with no member between (R60). -/
theorem nextNote_up {mem : Int → Bool} (h : HasMemberPerOctave mem) (n : Int) :
    n < nextNote mem true n ∧ ∀ m, n < m → m < nextNote mem true n → mem m = false := by
  obtain ⟨d, hd, -, hbefore⟩ := nextNote_spec h true n
  simp only [walkStep, if_true, one_mul] at hd hbefore
  refine ⟨by omega, fun m h1 h2 => ?_⟩
  rw [show m = n + ((m - n - 1).toNat + 1) by omega]
  exact hbefore _ (by omega)

/-- The next note downward lies below, with no member between (R60). -/
theorem nextNote_down {mem : Int → Bool} (h : HasMemberPerOctave mem) (n : Int) :
    nextNote mem false n < n ∧ ∀ m, nextNote mem false n < m → m < n → mem m = false := by
  obtain ⟨d, hd, -, hbefore⟩ := nextNote_spec h false n
  simp only [walkStep, Bool.false_eq_true, if_false, neg_one_mul] at hd hbefore
  refine ⟨by omega, fun m h1 h2 => ?_⟩
  rw [show m = n + -((n - m - 1).toNat + 1) by omega]
  exact hbefore _ (by omega)

/-- Settles O19: every voice is placed against the notes before it, then case by case of the resolution. -/
theorem collisionsResolved : Obligations.CollisionsResolved := by
  unfold Obligations.CollisionsResolved
  refine ⟨fun l avoid speaks vs hr => ?_, fun v => VoiceRule.movable_iff, fun l v h hset _ => ?_⟩
  · refine ⟨fun i h hn => ?_, fun i hs => ?_, fun i hd => ?_, fun ha i j h hij hj hni hnj => ?_, fun i h0 hi hs hn => ?_⟩
    · obtain ⟨taken, hp, -⟩ := placeAll_get_place l avoid speaks vs i
      exact place_note_mem (hr i) (hp ▸ hn)
    · obtain ⟨taken, hp, -⟩ := placeAll_get_place l avoid speaks vs i
      rw [hp, place_silent hs]
    · obtain ⟨taken, hp, hzero⟩ := placeAll_get_place l avoid speaks vs i
      rw [hp] at hd ⊢
      rcases place_cases l avoid (speaks (vs.get i)) (vs.get i) taken with hc | ⟨n, hc, -⟩ | ⟨hc, ha, hm, ht⟩
      · simp [hc] at hd
      · simp [hc] at hd
      · exact ⟨ha, by rw [hc], hm, fun hi => ht (hzero hi)⟩
    · have ht := mem_notesBefore.mpr ⟨i, hij, hni⟩
      rw [placeAll_get l avoid speaks vs hj] at hnj
      rcases place_cases l avoid (speaks (vs.get j)) (vs.get j) (notesBefore (placeAll l avoid speaks vs) j) with
        hc | ⟨n, hc, hfixed⟩ | ⟨hc, -⟩
      · simp [hc] at hnj
      · rw [hc] at hnj
        cases hnj
        exact hfixed ha ht
      · simp [hc] at hnj
    · simp only [← mem_notesBefore]
      rw [placeAll_get l avoid speaks vs hi, place_speaks hs hn]
      refine ⟨fun hk => ?_, fun ha ht hm => ⟨fun h1 => ?_, fun h1 h2 => ?_, fun h1 h2 => ?_⟩⟩
      · split
        · next ha => exact resolve_keeps (hk.resolve_left (by simp [ha]))
        · rfl
      · rw [if_pos ha, resolve_once ht hm h1]
      · rw [if_pos ha, resolve_twice ht hm h1 h2]
      · rw [if_pos ha, resolve_doubled ht hm h1 h2]
  · have hkey := inKey_hasMemberPerOctave l.view.tonic hset
    refine ⟨nextNote _ (0 < v.amount) h, rfl, nextNote_mem hkey _ h, fun hpos => ?_, fun hneg => ?_⟩
    · rw [decide_eq_true hpos]
      exact nextNote_up hkey h
    · rw [decide_eq_false (by omega)]
      exact nextNote_down hkey h

/-! ### The planner at a frame completion -/

/-- The planner does not run in SILENT, nor in UNVOICED without a HOLD voice or a held pitch (R46). -/
theorem planPitch_none {rec : FrameRecord} {sc : Scene} (h : rec.state = .silent ∨ (rec.state = .unvoiced ∧
    ((sc.voices.toList.any fun v => v.policy = .hold) = false ∨ rec.held = none))) : planPitch rec sc = none := by
  rcases h with h | ⟨h, hh⟩
  · simp only [planPitch, h]
  · simp only [planPitch, h]
    rcases hh with hh | hh
    · rw [hh]; rfl
    · rw [hh, ite_self]

/-- Where it runs, it works from the held pitch (R46). -/
theorem planPitch_held {rec : FrameRecord} {sc : Scene} (h : rec.state = .onset ∨ rec.state = .voiced ∨ rec.state = .release ∨
    (rec.state = .unvoiced ∧ (sc.voices.toList.any fun v => v.policy = .hold) = true)) : planPitch rec sc = rec.held := by
  rcases h with h | h | h | ⟨h, hh⟩
  · simp only [planPitch, h]
  · simp only [planPitch, h]
  · simp only [planPitch, h]
  · simp only [planPitch, h, hh, if_true]

section
variable {p : Planner} {rec : FrameRecord} {view : PlanningView} {sc : Scene} {mode : EngineMode} {envs : Four EnvState}

theorem Planner.completeFrame_rests (h : planPitch rec sc = none) : p.completeFrame rec view sc mode envs =
    { prevLead := if rec.state = .silent then none else p.prevLead, voices := p.voices.map PlanVoice.rest } := by
  simp only [Planner.completeFrame, h]

/-- Where the planner runs, each voice takes what planVoice gives its place (R47 to R69). -/
theorem Planner.completeFrame_runs {pitch : Int} (h : planPitch rec sc = some pitch) :
    let n := leadNote p.prevLead pitch sc.hysteresis
    let placed := placeAll ⟨n, snap view.tonic view.scaleSet n, view⟩ sc.collisionAvoid
      (fun v => !(rec.state = .unvoiced && v.policy = .mute)) sc.voices
    (p.completeFrame rec view sc mode envs).prevLead = some n ∧
      ∀ i, i < 4 → (p.completeFrame rec view sc mode envs).voices.get i =
        planVoice sc mode rec.state n (pitch - 100 * n) (sc.voices.get i) (envs.get i) (placed.get i) (p.voices.get i) := by
  unfold Planner.completeFrame
  rw [h]
  refine ⟨rfl, fun i hi => ?_⟩
  match i, hi with
  | 0, _ => rfl
  | 1, _ => rfl
  | 2, _ => rfl
  | 3, _ => rfl

end

section
variable {sc : Scene} {mode : EngineMode} {state : Voicing} {n e : Int} {v : VoiceRule} {env : EnvState} {pl : Placed}
  {old : PlanVoice}

theorem planVoice_none (h : pl.note = none) : planVoice sc mode state n e v env pl old =
    { old with planned := none, outOfReach := false, doubledOut := pl.doubledOut, command := .close } := by
  simp only [planVoice, h]

theorem planVoice_some {h : Int} (hn : pl.note = some h) : planVoice sc mode state n e v env pl old =
    let notePart := glidePart (env = .closed) sc.glide (100 * (h - n)) old.notePart
    let shift := clampInt (-2400) 2400 (notePart + finePart v.detune e sc.correction)
    { planned := some h, notePart := notePart, shift := shift, ratio := ratioOf shift,
      outOfReach := shift ≠ notePart + finePart v.detune e sc.correction, doubledOut := false,
      command := commandFor mode state sc.onsetMode true } := by
  simp only [planVoice, hn]

end

/-- The glided note part: there at once where the voice is closed, without glide, or within one step; else one step on (R65). -/
theorem glidePart_eq (closed : Prop) [Decidable closed] (glide : Nat) (target na : Int) :
    glidePart closed glide target na =
      if closed ∨ glide = 0 ∨ (target - na).natAbs ≤ glide then target else if na < target then na + glide else na - glide := by
  rw [ite_or, ite_or]
  simp only [glidePart, decide_eq_true_eq]

/-- A clamp acts exactly on a value outside its range (R67). -/
theorem clampInt_ne_iff {lo hi : Int} (h : lo ≤ hi) (x : Int) : clampInt lo hi x ≠ x ↔ x < lo ∨ hi < x := by
  rw [clampInt_eq_max h]
  omega

/-- The command of a voice with a planned note: CLOSE in BYPASS; else OPEN in VOICED, in UNVOICED, and in ONSET where the scene
opens there, and KEEP in the other states (R69, R70). -/
theorem commandFor_planned {state : Voicing} (mode : EngineMode) (onset : OnsetMode) (h : state ≠ .silent) :
    commandFor mode state onset true = if mode = .bypass then .close
      else if state = .voiced ∨ state = .unvoiced ∨ (state = .onset ∧ onset = .atOnset) then .open else .keep := by
  unfold commandFor
  by_cases hm : mode = .bypass
  · simp [hm]
  · cases state with
    | silent => exact absurd rfl h
    | unvoiced => simp [hm]
    | voiced => simp [hm]
    | release => simp [hm]
    | onset => cases onset <;> simp [hm]

/-- Settles O20: the planner rests or runs, and where it runs each voice has no note or is planned. -/
theorem plannerAtAFrameCompletion : Obligations.PlannerAtAFrameCompletion := by
  unfold Obligations.PlannerAtAFrameCompletion
  intro p rec view sc mode envs
  refine ⟨fun hrest => ?_, fun pitch hp hrun => ?_⟩
  · rw [Planner.completeFrame_rests (planPitch_none hrest)]
    exact ⟨rfl, rfl⟩
  · obtain ⟨hlead, hvoice⟩ := Planner.completeFrame_runs (p := p) (view := view) (mode := mode) (envs := envs)
      ((planPitch_held hrun).trans hp)
    refine ⟨hlead, fun i hi => ?_⟩
    rw [hvoice i hi]
    refine ⟨planVoice_none, fun h hn => ?_⟩
    have hsilent : rec.state ≠ .silent := by
      rintro hs
      simp [hs] at hrun
    rw [planVoice_some hn, commandFor_planned mode _ hsilent]
    refine ⟨rfl, rfl, glidePart_eq _ _ _ _, clampInt_eq_max (by decide) _, ?_, rfl, rfl⟩
    exact decide_eq_decide.mpr (clampInt_ne_iff (by decide) _)

end Sys2Proof.Machine
end

section
/-! Proofs: the ratio and the gain coefficient as rounded roots, the pan coefficients as rounded cosines (R68, R108, R109). -/

namespace Sys2Proof.Machine

/-! ### The ratio (R68) -/

/-- A power of two that the root's 17 bits hold. -/
theorem two_pow_lt_bits {e k : Nat} (h : e < 17 * k) : 2 ^ e < (2 ^ 17) ^ k := by
  rw [← pow_mul]
  exact Nat.pow_lt_pow_right Nat.one_lt_two h

theorem floorRoot_mono {k a b bits : Nat} (hk : 0 < k) (hab : a ≤ b) (hb : b < (2 ^ bits) ^ k) :
    floorRoot k a bits ≤ floorRoot k b bits :=
  le_floorRoot hk hb ((floorRoot_spec hk (hab.trans_lt hb)).1.trans hab)

/-- The ratio grows with the shift (R68). -/
theorem ratioOf_mono {d e : Int} (hde : d ≤ e) (he : e ≤ 2400) : ratioOf d ≤ ratioOf e := by
  have hroot : floorRoot 1200 (2 ^ (16800 + d).toNat) 17 ≤ floorRoot 1200 (2 ^ (16800 + e).toNat) 17 :=
    floorRoot_mono (by decide) (Nat.pow_le_pow_right (by decide) (by omega)) (two_pow_lt_bits (by omega))
  exact Nat.div_le_div_right (Nat.add_le_add_right hroot 1)

/-- At whole octaves the ratio is the exact power of two (R68). -/
theorem ratioOf_octaves {shift : Int} (h1 : -2400 ≤ shift) (h2 : shift ≤ 2400) {e : Nat}
    (he : 16800 + shift = 1200 * (e + 1)) : ratioOf shift = 2 ^ e := by
  obtain ⟨hlo, hhi, -⟩ := ratioOf_spec h1 h2
  have hpow : 2 ^ (16800 + shift).toNat = (2 * 2 ^ e) ^ 1200 := by
    rw [← pow_succ', ← pow_mul]
    congr 1
    omega
  rw [hpow] at hlo hhi
  have hle := le_of_pow_le_pow_left₀ (by decide) (Nat.zero_le _) hlo
  have hlt := lt_of_pow_lt_pow_left₀ 1200 (Nat.zero_le _) hhi
  omega

/-! ### The gain coefficient (R108) -/

/-- Half the 40th root of `a / b`, rounded, for a quotient between those of -59.5 dB and 6 dB: the numbers half a unit on
either side bracket it, and it lies between the coefficients of these two gains. -/
theorem gainRoot_spec {a b : Nat} (hb : 0 < b) (hb' : b ≤ 10 ^ 119) (ha : 32768 ^ 40 ≤ a) (ha' : a ≤ 32768 ^ 40 * 10 ^ 12) :
    let r := (floorRoot 40 (a / b) 17 + 1) / 2
    (2 * r - 1) ^ 40 * b ≤ a ∧ a < (2 * r + 1) ^ 40 * b ∧ (17 ≤ r ∧ r ≤ 32690) := by
  have hmax : a / b ≤ 32768 ^ 40 * 10 ^ 12 := (Nat.div_le_self a b).trans ha'
  have hbits : a / b < (2 ^ 17) ^ 40 := hmax.trans_lt (by norm_num)
  have hlow : 33 ≤ floorRoot 40 (a / b) 17 := by
    refine le_floorRoot (by decide) hbits ((Nat.le_div_iff_mul_le hb).mpr ?_)
    calc
      33 ^ 40 * b ≤ 33 ^ 40 * 10 ^ 119 := Nat.mul_le_mul_left _ hb'
      _ ≤ 32768 ^ 40 := by norm_num
      _ ≤ a := ha
  have hhigh : floorRoot 40 (a / b) 17 < 65381 := floorRoot_lt (by decide) hbits (hmax.trans_lt (by norm_num))
  obtain ⟨hle, hlt⟩ := floorRoot_spec (by decide) hbits
  rw [Nat.le_div_iff_mul_le hb] at hle
  rw [Nat.div_lt_iff_lt_mul hb] at hlt
  generalize floorRoot 40 (a / b) 17 = f at *
  exact ⟨(Nat.mul_le_mul_right _ (Nat.pow_le_pow_left (by omega) 40)).trans hle,
    hlt.trans_le (Nat.mul_le_mul_right _ (Nat.pow_le_pow_left (by omega) 40)), by omega, by omega⟩

/-- The gain coefficient is the rounding of `16384 * 10 ^ (count / 40)` (R108). -/
theorem gainCoeff_spec {g : Int} (h1 : -120 < g) (h2 : g ≤ 12) :
    (2 * gainCoeff g - 1) ^ 40 * 10 ^ (-g).toNat ≤ 32768 ^ 40 * 10 ^ g.toNat ∧
      32768 ^ 40 * 10 ^ g.toNat < (2 * gainCoeff g + 1) ^ 40 * 10 ^ (-g).toNat ∧
      (17 ≤ gainCoeff g ∧ gainCoeff g ≤ 32690) := by
  rw [gainCoeff, if_neg (by omega)]
  exact gainRoot_spec (Nat.pow_pos (by decide)) (Nat.pow_le_pow_right (by decide) (by omega))
    (Nat.le_mul_of_pos_right _ (Nat.pow_pos (by decide)))
    (Nat.mul_le_mul_left _ (Nat.pow_le_pow_right (by decide) (by omega)))

/-! ### The cosine series over the real numbers -/

/-- The `j`-th term of the cosine series at an angle whose square is `y`. -/
noncomputable def cosTerm (y : ℝ) (j : Nat) : ℝ := (-y) ^ j / (2 * j).factorial

theorem cosTerm_succ (y : ℝ) (j : Nat) : cosTerm y (j + 1) = -(cosTerm y j * y) / ((2 * j + 1) * (2 * j + 2)) := by
  have hfact : ((2 * (j + 1)).factorial : ℝ) = (2 * j + 1) * (2 * j + 2) * (2 * j).factorial := by
    rw [show 2 * (j + 1) = 2 * j + 1 + 1 by ring, Nat.factorial_succ, Nat.factorial_succ]
    push_cast
    ring
  have hne : ((2 * j).factorial : ℝ) ≠ 0 := by positivity
  have hm : ((2 * j + 1) * (2 * j + 2) : ℝ) ≠ 0 := by positivity
  rw [cosTerm, cosTerm, hfact, pow_succ]
  field_simp

theorem two_le_termDivisor (j : Nat) : (2 : ℝ) ≤ (2 * j + 1) * (2 * j + 2) := by
  have : (0 : ℝ) ≤ j := j.cast_nonneg
  nlinarith

/-- The terms at an angle below 2 at most double from one to the next. -/
theorem abs_cosTerm_le {y : ℝ} (h0 : 0 ≤ y) (h4 : y ≤ 4) (j : Nat) : |cosTerm y j| ≤ 2 ^ j := by
  induction j with
  | zero => simp [cosTerm]
  | succ j ih =>
    have hm := two_le_termDivisor j
    rw [cosTerm_succ, abs_div, abs_neg, abs_mul, abs_of_nonneg h0, abs_of_pos (by linarith : (0 : ℝ) < (2 * j + 1) * (2 * j + 2)),
      div_le_iff₀ (by linarith), pow_succ]
    nlinarith [abs_nonneg (cosTerm y j), pow_pos (by norm_num : (0 : ℝ) < 2) j]

/-- The even terms of the exponential series at `x * I` are the cosine's, and the odd ones imaginary. -/
theorem expSeries_re (x : ℝ) (n : Nat) :
    (∑ m ∈ Finset.range (2 * n), ((x : ℂ) * Complex.I) ^ m / m.factorial).re = ∑ j ∈ Finset.range n, cosTerm (x ^ 2) j := by
  induction n with
  | zero => simp
  | succ n ih =>
    have heven : ((x : ℂ) * Complex.I) ^ (2 * n) = (((-x ^ 2) ^ n : ℝ) : ℂ) := by
      rw [pow_mul, mul_pow, Complex.I_sq]
      push_cast
      ring
    have hterm : (((x : ℂ) * Complex.I) ^ (2 * n) / (2 * n).factorial).re = cosTerm (x ^ 2) n := by
      rw [heven, ← Complex.ofReal_natCast, ← Complex.ofReal_div, Complex.ofReal_re, cosTerm]
    have hodd : (((x : ℂ) * Complex.I) ^ (2 * n + 1) / (2 * n + 1).factorial).re = 0 := by
      rw [pow_succ, heven, ← mul_assoc, ← Complex.ofReal_mul, mul_div_right_comm, ← Complex.ofReal_natCast,
        ← Complex.ofReal_div, Complex.re_ofReal_mul, Complex.I_re, mul_zero]
    rw [Nat.mul_succ, Finset.sum_range_succ, Finset.sum_range_succ, Finset.sum_range_succ, Complex.add_re, Complex.add_re, ih,
      hterm, hodd, add_zero]

/-- At an angle up to 2, 24 terms give the cosine to within a thousand-millionth. -/
theorem cos_sub_series_le {x : ℝ} (h0 : 0 ≤ x) (h2 : x ≤ 2) :
    |Real.cos x - ∑ j ∈ Finset.range 24, cosTerm (x ^ 2) j| ≤ 1 / 10 ^ 9 := by
  have hnorm : ‖(x : ℂ) * Complex.I‖ = x := by simp [abs_of_nonneg h0]
  have hexp := Complex.exp_bound' (x := (x : ℂ) * Complex.I) (n := 48) (by rw [hnorm]; norm_num; linarith)
  rw [← Complex.exp_ofReal_mul_I_re, ← expSeries_re, ← Complex.sub_re]
  refine ((Complex.abs_re_le_norm _).trans hexp).trans ?_
  rw [hnorm]
  have hpow : x ^ 48 ≤ 2 ^ 48 := pow_le_pow_left₀ h0 h2 48
  have hfact : (0 : ℝ) < (48 : Nat).factorial := by positivity
  calc
    x ^ 48 / (48 : Nat).factorial * 2 ≤ 2 ^ 48 / (48 : Nat).factorial * 2 := by gcongr
    _ ≤ 1 / 10 ^ 9 := by norm_num [Nat.factorial]

/-! ### The model's series, in units of `1 / seriesScale` -/

/-- A quotient of whole numbers lies less than one below the exact one. -/
theorem ediv_near (a : Int) (n : Nat) : (a : ℝ) / n - 1 ≤ (a / n : Int) ∧ ((a / n : Int) : ℝ) ≤ a / n := by
  have e : a / (n : Int) = ⌊(a : ℝ) / n⌋ := by rw [Int.floor_div_natCast, Int.floor_intCast]
  rw [e]
  exact ⟨(Int.sub_one_lt_floor _).le, Int.floor_le _⟩

theorem natDiv_near (a n : Nat) : |((a / n : Nat) : ℝ) - a / n| ≤ 1 := by
  obtain ⟨h1, h2⟩ := ediv_near a n
  rw [← Int.natCast_div, Int.cast_natCast, Int.cast_natCast] at h1 h2
  rw [abs_le]
  constructor <;> linarith

/-- The next term of the model's series: two quotients of whole numbers, off by at most one unit (R109). -/
theorem nextTerm_near (term : Int) (x2 j : Nat) :
    |((-(term * x2 / seriesScale) / ((2 * j + 1) * (2 * j + 2)) : Int) : ℝ) / seriesScale -
      -((term : ℝ) / seriesScale * (x2 / seriesScale)) / ((2 * j + 1) * (2 * j + 2))| ≤ 1 / seriesScale := by
  have hS : (0 : ℝ) < seriesScale := by norm_num [seriesScale]
  obtain ⟨q1, q2⟩ := ediv_near (term * x2) seriesScale
  obtain ⟨t1, t2⟩ := ediv_near (-(term * x2 / seriesScale)) ((2 * j + 1) * (2 * j + 2))
  have hm := two_le_termDivisor j
  push_cast at q1 q2 t1 t2 ⊢
  generalize ((term * x2 / seriesScale : Int) : ℝ) = q at *
  generalize ((-(term * x2 / seriesScale) / ((2 * j + 1) * (2 * j + 2)) : Int) : ℝ) = t at *
  generalize ((2 * j + 1) * (2 * j + 2) : ℝ) = m at *
  have hm0 : 0 < m := by linarith
  have e : -((term : ℝ) / seriesScale * (x2 / seriesScale)) / m = -(term * x2 / seriesScale) / m / seriesScale := by
    field_simp
  have hnear : |t - -(term * x2 / seriesScale) / m| ≤ 1 := by
    have h1 : -(term * x2 / seriesScale) / m ≤ -q / m := by gcongr
    have h2 : -q / m ≤ -(term * x2 / seriesScale) / m + 1 / m := by
      rw [← add_div]
      gcongr
      linarith
    have h3 : 1 / m ≤ 1 := (div_le_one hm0).mpr (by linarith)
    rw [abs_le]
    constructor <;> linarith
  rw [e, ← sub_div, abs_div, abs_of_pos hS]
  gcongr

section
variable {x2 : Nat} {y δ : ℝ}

/-- Where a term of the model's series and the square of its angle are nearly exact, so is the next: the error at most triples. -/
theorem nextTerm_error (h0 : 0 ≤ y) (h3 : y ≤ 3) (hδ : 1 / seriesScale ≤ δ / 2) (hδ1 : δ ≤ 1)
    (hx2 : |(x2 : ℝ) / seriesScale - y| ≤ δ) {j : Nat} {term : Int} (hterm : |(term : ℝ) / seriesScale - cosTerm y j| ≤ 3 ^ j * δ) :
    |((-(term * x2 / seriesScale) / ((2 * j + 1) * (2 * j + 2)) : Int) : ℝ) / seriesScale - cosTerm y (j + 1)| ≤
      3 ^ (j + 1) * δ := by
  have hδ0 : 0 ≤ δ := (abs_nonneg _).trans hx2
  have hround := nextTerm_near term x2 j
  have hm := two_le_termDivisor j
  have hx2le : |(x2 : ℝ) / seriesScale| ≤ 4 := by
    have := abs_le.mp hx2
    rw [abs_le]
    constructor <;> linarith
  have hprod : |(term : ℝ) / seriesScale * (x2 / seriesScale) - cosTerm y j * y| ≤ 3 ^ j * δ * 4 + 2 ^ j * δ := calc
    _ = |((term : ℝ) / seriesScale - cosTerm y j) * (x2 / seriesScale) + cosTerm y j * (x2 / seriesScale - y)| := by ring_nf
    _ ≤ |(term : ℝ) / seriesScale - cosTerm y j| * |(x2 : ℝ) / seriesScale| + |cosTerm y j| * |(x2 : ℝ) / seriesScale - y| := by
      rw [← abs_mul, ← abs_mul]
      exact abs_add_le _ _
    _ ≤ _ := add_le_add (mul_le_mul hterm hx2le (by positivity) (by positivity))
      (mul_le_mul (abs_cosTerm_le h0 (by linarith) j) hx2 (by positivity) (by positivity))
  have hexact : |-((term : ℝ) / seriesScale * (x2 / seriesScale)) / ((2 * j + 1) * (2 * j + 2)) - cosTerm y (j + 1)| ≤
      (3 ^ j * δ * 4 + 2 ^ j * δ) / 2 := by
    rw [cosTerm_succ, ← sub_div, abs_div, abs_of_pos (by linarith : (0 : ℝ) < (2 * j + 1) * (2 * j + 2)), neg_sub_neg, abs_sub_comm]
    exact div_le_div₀ (by positivity) hprod (by norm_num) hm
  have h23 : (2 : ℝ) ^ j * δ ≤ 3 ^ j * δ := mul_le_mul_of_nonneg_right (pow_le_pow_left₀ (by norm_num) (by norm_num) j) hδ0
  have h13 : δ ≤ 3 ^ j * δ := le_mul_of_one_le_left hδ0 (one_le_pow₀ (by norm_num))
  calc
    _ ≤ 1 / seriesScale + (3 ^ j * δ * 4 + 2 ^ j * δ) / 2 := (abs_sub_le _ _ _).trans (add_le_add hround hexact)
    _ ≤ 3 ^ (j + 1) * δ := by rw [pow_succ]; linarith

/-- And so is the sum from that term on. -/
theorem cosSeries_near (h0 : 0 ≤ y) (h3 : y ≤ 3) (hδ : 1 / seriesScale ≤ δ / 2) (hδ1 : δ ≤ 1)
    (hx2 : |(x2 : ℝ) / seriesScale - y| ≤ δ) (n j : Nat) {term : Int}
    (hterm : |(term : ℝ) / seriesScale - cosTerm y j| ≤ 3 ^ j * δ) :
    |(cosSeries x2 n j term : ℝ) / seriesScale - ∑ i ∈ Finset.range n, cosTerm y (j + i)| ≤ (3 ^ (j + n) - 3 ^ j) / 2 * δ := by
  induction n generalizing j term with
  | zero => simp [cosSeries]
  | succ n ih =>
    have hsum := ih (j + 1) (nextTerm_error h0 h3 hδ hδ1 hx2 hterm)
    have hcons : ∑ i ∈ Finset.range (n + 1), cosTerm y (j + i) = cosTerm y j + ∑ i ∈ Finset.range n, cosTerm y (j + 1 + i) := by
      rw [Finset.sum_range_succ', Nat.add_zero, add_comm]
      simp only [Nat.add_assoc, Nat.add_comm 1]
    rw [cosSeries, Int.cast_add, add_div, hcons, add_sub_add_comm]
    calc
      _ ≤ 3 ^ j * δ + (3 ^ (j + 1 + n) - 3 ^ (j + 1)) / 2 * δ := (abs_add_le _ _).trans (add_le_add hterm hsum)
      _ = (3 ^ (j + (n + 1)) - 3 ^ j) / 2 * δ := by ring

end

/-! ### The cosines of the 101 pans (R109) -/

/-- The angle of step `k` of 100 to the right angle. -/
noncomputable def panAngle (k : Nat) : ℝ := k / 100 * (Real.pi / 2)

/-- The square of that angle as the model takes it. -/
def scaledSquare (k : Nat) : Nat := (scaledPi * k / 200) * (scaledPi * k / 200) / seriesScale

/-- The cosine of that angle as the model takes it. -/
def scaledCos (k : Nat) : Int := cosSeries (scaledSquare k) 24 0 seriesScale

theorem cosCoeff_eq (k : Nat) : cosCoeff k = (roundDiv (16384 * scaledCos k) seriesScale).toNat := rfl

theorem panAngle_toNat {n : Int} (h : 0 ≤ n) : panAngle n.toNat = n / 100 * (Real.pi / 2) := by
  rw [panAngle, ← Int.cast_natCast, Int.toNat_of_nonneg h]

theorem panAngle_mem {k : Nat} (hk : k ≤ 100) : 0 ≤ panAngle k ∧ panAngle k ≤ 8 / 5 := by
  have hpi := Real.pi_lt_d20
  have hpos := Real.pi_pos
  have hk' : (k : ℝ) ≤ 100 := by exact_mod_cast hk
  unfold panAngle
  constructor
  · positivity
  · nlinarith

theorem scaledPi_near : |(scaledPi : ℝ) / seriesScale - Real.pi| ≤ 1 / 10 ^ 20 := by
  have h1 := Real.pi_gt_d20
  have h2 := Real.pi_lt_d20
  have h3 : (3.14159265358979323846 : ℝ) ≤ (scaledPi : ℝ) / seriesScale := by norm_num [scaledPi, seriesScale]
  have h4 : (scaledPi : ℝ) / seriesScale ≤ 3.14159265358979323847 := by norm_num [scaledPi, seriesScale]
  rw [abs_le]
  constructor <;> linarith

theorem scaledAngle_near {k : Nat} (hk : k ≤ 100) :
    |((scaledPi * k / 200 : Nat) : ℝ) / seriesScale - panAngle k| ≤ 1 / 10 ^ 20 := by
  have hS : (0 : ℝ) < seriesScale := by norm_num [seriesScale]
  have hS' : (1 : ℝ) / seriesScale ≤ 1 / 10 ^ 30 := by norm_num [seriesScale]
  have hk' : (k : ℝ) ≤ 100 := by exact_mod_cast hk
  have e : (scaledPi * k : Nat) / (200 : Nat) / (seriesScale : ℝ) - panAngle k =
      (scaledPi / seriesScale - Real.pi) * (k / 200) := by
    unfold panAngle
    push_cast
    ring
  have hexact : |(scaledPi * k : Nat) / (200 : Nat) / (seriesScale : ℝ) - panAngle k| ≤ 1 / 10 ^ 20 * (1 / 2) := by
    rw [e, abs_mul, abs_of_nonneg (by positivity : (0 : ℝ) ≤ k / 200)]
    exact mul_le_mul scaledPi_near (by linarith) (by positivity) (by positivity)
  have hround : |((scaledPi * k / 200 : Nat) : ℝ) / seriesScale - (scaledPi * k : Nat) / (200 : Nat) / seriesScale| ≤
      1 / seriesScale := by
    rw [← sub_div, abs_div, abs_of_pos hS]
    exact div_le_div_of_nonneg_right (natDiv_near _ _) hS.le
  have hsum := (abs_sub_le _ _ _).trans (add_le_add hround hexact)
  linarith

theorem scaledSquare_near {k : Nat} (hk : k ≤ 100) : |(scaledSquare k : ℝ) / seriesScale - panAngle k ^ 2| ≤ 1 / 10 ^ 19 := by
  have hS : (0 : ℝ) < seriesScale := by norm_num [seriesScale]
  have hS' : (1 : ℝ) / seriesScale ≤ 1 / 10 ^ 30 := by norm_num [seriesScale]
  obtain ⟨h0, h1⟩ := panAngle_mem hk
  have hnear := scaledAngle_near hk
  unfold scaledSquare
  generalize scaledPi * k / 200 = x at *
  have hsum : |(x : ℝ) / seriesScale + panAngle k| ≤ 4 := by
    obtain ⟨n1, n2⟩ := abs_le.mp hnear
    rw [abs_le]
    constructor <;> linarith
  have hexact : |((x * x : Nat) : ℝ) / seriesScale / seriesScale - panAngle k ^ 2| ≤ 1 / 10 ^ 20 * 4 := by
    rw [show ((x * x : Nat) : ℝ) / seriesScale / seriesScale - panAngle k ^ 2 =
      (x / seriesScale - panAngle k) * (x / seriesScale + panAngle k) by push_cast; ring, abs_mul]
    exact mul_le_mul hnear hsum (by positivity) (by positivity)
  have hround : |((x * x / seriesScale : Nat) : ℝ) / seriesScale - ((x * x : Nat) : ℝ) / seriesScale / seriesScale| ≤
      1 / seriesScale := by
    rw [← sub_div, abs_div, abs_of_pos hS]
    exact div_le_div_of_nonneg_right (natDiv_near _ _) hS.le
  have hall := (abs_sub_le _ _ _).trans (add_le_add hround hexact)
  linarith

/-- The model's cosine is the real one to within a ten-millionth (log 12). -/
theorem scaledCos_near {k : Nat} (hk : k ≤ 100) : |(scaledCos k : ℝ) / seriesScale - Real.cos (panAngle k)| ≤ 1 / 10 ^ 7 := by
  have hS : (seriesScale : ℝ) ≠ 0 := by norm_num [seriesScale]
  obtain ⟨h0, h1⟩ := panAngle_mem hk
  have hseries := cosSeries_near (y := panAngle k ^ 2) (δ := 1 / 10 ^ 19) (by positivity) (by nlinarith)
    (by norm_num [seriesScale]) (by norm_num) (scaledSquare_near hk) 24 0 (term := seriesScale)
    (by simp [cosTerm, hS])
  simp only [Nat.zero_add] at hseries
  have hcos := cos_sub_series_le h0 (by linarith)
  rw [abs_sub_comm] at hcos
  calc
    _ ≤ (3 ^ 24 - 3 ^ 0) / 2 * (1 / 10 ^ 19) + 1 / 10 ^ 9 := (abs_sub_le _ _ _).trans (add_le_add hseries hcos)
    _ ≤ 1 / 10 ^ 7 := by norm_num

/-- The model's cosine of each pan step lies at least 1/200 of a unit of the coefficient away from the next half. -/
theorem cosCoeff_margin : ∀ k, k ≤ 100 →
    (seriesScale : Int) ≤ 100 * (2 * (16384 * scaledCos k) + seriesScale - 2 * seriesScale * cosCoeff k) ∧
      100 * (2 * (16384 * scaledCos k) + seriesScale - 2 * seriesScale * cosCoeff k) ≤ 199 * seriesScale := by
  decide +kernel

/-- The coefficient is the rounding of the real cosine (R109). -/
theorem cosCoeff_eq_floor {k : Nat} (hk : k ≤ 100) : (cosCoeff k : Int) = ⌊16384 * Real.cos (panAngle k) + 1 / 2⌋ := by
  have hS : (0 : ℝ) < seriesScale := by norm_num [seriesScale]
  obtain ⟨m1, m2⟩ := cosCoeff_margin k hk
  have m1 : ((seriesScale : Int) : ℝ) ≤ _ := Int.cast_le.mpr m1
  have m2 : _ ≤ ((199 * seriesScale : Int) : ℝ) := Int.cast_le.mpr m2
  have hnear := abs_le.mp (scaledCos_near hk)
  have e : (scaledCos k : ℝ) = scaledCos k / seriesScale * seriesScale := by field_simp
  push_cast at m1 m2
  rw [e] at m1 m2
  generalize (scaledCos k : ℝ) / seriesScale = c at *
  have n1 : 1 ≤ 100 * (2 * (16384 * c) + 1 - 2 * cosCoeff k) := by
    refine le_of_mul_le_mul_right ?_ hS
    linarith
  have n2 : 100 * (2 * (16384 * c) + 1 - 2 * cosCoeff k) ≤ 199 := by
    refine le_of_mul_le_mul_right ?_ hS
    linarith
  rw [eq_comm, Int.floor_eq_iff]
  push_cast
  constructor <;> linarith

/-- Settles O21: whole roots for ratio and gain; for the pans the series' error against its distance from the halves. -/
theorem ratioAndCoefficientsRound : Obligations.RatioAndCoefficientsRound := by
  unfold Obligations.RatioAndCoefficientsRound
  refine ⟨fun d => ratioOf_spec, fun d e _ hde he => ratioOf_mono hde he, ⟨?_, ?_, ?_⟩, fun g => gainCoeff_spec, rfl, fun _ _ => rfl,
    fun p h1 h2 => ⟨?_, ?_⟩⟩
  · exact ratioOf_octaves (e := 11) (by decide) (by decide) (by decide)
  · exact ratioOf_octaves (e := 13) (by decide) (by decide) (by decide)
  · exact ratioOf_octaves (e := 15) (by decide) (by decide) (by decide)
  · rw [panLeft, cosCoeff_eq_floor (by omega), panAngle_toNat (by omega)]
    push_cast
    rfl
  · rw [panRight, cosCoeff_eq_floor (by omega), panAngle_toNat (by omega), ← Real.cos_pi_div_two_sub]
    push_cast
    congr 4
    ring

end Sys2Proof.Machine
end

section
/-! Proofs: the check of a scene record, field by field (R57, R115 to R117, R174). -/

namespace Sys2Proof.Machine

/-! ### Enumerations by their bytes (9.7) -/

theorem KeySource.ofByte_eq (b : Byte) :
    KeySource.ofByte b = if b.toNat ≤ 1 then some (if b.toNat = 1 then .chord else .scene) else none := by
  revert b
  decide +kernel

theorem UnvoicedPolicy.ofByte_eq (b : Byte) :
    UnvoicedPolicy.ofByte b = if b.toNat ≤ 1 then some (if b.toNat = 1 then .hold else .mute) else none := by
  revert b
  decide +kernel

theorem VoiceMode.ofByte_eq (b : Byte) :
    VoiceMode.ofByte b = [VoiceMode.off, .scale, .chord, .semitone, .drone][b.toNat]? := by
  revert b
  decide +kernel

theorem KeySource.ofByte_eq_none_iff {b : Byte} : KeySource.ofByte b = none ↔ 1 < b.toNat := by
  simp [KeySource.ofByte_eq]

theorem UnvoicedPolicy.ofByte_eq_none_iff {b : Byte} : UnvoicedPolicy.ofByte b = none ↔ 1 < b.toNat := by
  simp [UnvoicedPolicy.ofByte_eq]

theorem VoiceMode.ofByte_eq_none_iff {b : Byte} : VoiceMode.ofByte b = none ↔ 4 < b.toNat := by
  rw [VoiceMode.ofByte_eq, List.getElem?_eq_none_iff]
  exact Iff.rfl

/-! ### The repair of a range (R57) -/

theorem repairRange_eq (low high : Int) :
    let l1 := max 24 (min 108 low)
    let u1 := max 24 (min 108 high)
    let u2 := if u1 < l1 + 12 then min (l1 + 12) 108 else u1
    let l2 := if u2 < l1 + 12 then u2 - 12 else l1
    ((repairRange low high).1 : Int) = l2 ∧ ((repairRange low high).2 : Int) = u2 := by
  simp only [repairRange, clampInt_eq_max (by decide : (24 : Int) ≤ 108)]
  omega

/-! ### A voice block -/

/-- The enumerations of a voice block are bad: its mode or its unvoiced policy is outside its names (R117 step 1). -/
def BadVoice (p : List Byte) (o : Nat) : Prop := 4 < (byteAt p o).toNat ∨ 1 < (byteAt p (o + 7)).toNat

theorem parseVoice_eq_none_iff {p : List Byte} {o : Nat} : parseVoice p o = none ↔ BadVoice p o := by
  rw [BadVoice, ← VoiceMode.ofByte_eq_none_iff, ← UnvoicedPolicy.ofByte_eq_none_iff]
  unfold parseVoice
  cases VoiceMode.ofByte (byteAt p o) with
  | none => simp
  | some m => cases UnvoicedPolicy.ofByte (byteAt p (o + 7)) <;> simp

/-- A voice block that passes holds its bytes field by field, numbers clamped and bounds repaired (R117). -/
theorem parseVoice_some {p : List Byte} {o : Nat} {v : VoiceRule} (h : parseVoice p o = some v) :
    [VoiceMode.off, .scale, .chord, .semitone, .drone][(byteAt p o).toNat]? = some v.mode ∧
      v.amount = max (amountRange v.mode).1 (min (amountRange v.mode).2 (byteAt p (o + 1)).toInt) ∧
      (v.low, v.high) = repairRange (byteAt p (o + 2)).toNat (byteAt p (o + 3)).toNat ∧
      v.detune = max (-50) (min 50 (byteAt p (o + 4)).toInt) ∧ v.gain = max (-120) (min 12 (byteAt p (o + 5)).toInt) ∧
      v.pan = max (-50) (min 50 (byteAt p (o + 6)).toInt) ∧
      v.policy = (if (byteAt p (o + 7)).toNat = 1 then .hold else .mute) := by
  unfold parseVoice at h
  split at h
  · next m pol hm hpol =>
    cases h
    rw [VoiceMode.ofByte_eq] at hm
    rw [UnvoicedPolicy.ofByte_eq] at hpol
    have hpol := (Option.ite_none_right_eq_some.mp hpol).2
    refine ⟨hm, clampInt_eq_max (amountRange_le m) _, rfl, clampInt_eq_max (by decide) _, clampInt_eq_max (by decide) _,
      clampInt_eq_max (by decide) _, ?_⟩
    exact (Option.some.inj hpol).symm
  · cases h

theorem parseVoices_get {p : List Byte} {vs : Four VoiceRule} (h : parseVoices p = some vs) {i : Nat} (hi : i < 4) :
    parseVoice p (26 + 8 * i) = some (vs.get i) := by
  unfold parseVoices at h
  split at h
  · next h0 h1 h2 h3 =>
    cases h
    match i, hi with
    | 0, _ => exact h0
    | 1, _ => exact h1
    | 2, _ => exact h2
    | 3, _ => exact h3
  · cases h

/-- The voices are refused exactly where one of the four blocks is. -/
theorem parseVoices_eq_none_iff {p : List Byte} : parseVoices p = none ↔ ∃ v, v < 4 ∧ BadVoice p (26 + 8 * v) := by
  cases h : parseVoices p with
  | some vs =>
    refine iff_of_false (Option.some_ne_none vs) ?_
    rintro ⟨v, hv, hbad⟩
    exact absurd (parseVoices_get h hv) (by simp [parseVoice_eq_none_iff.mpr hbad])
  | none =>
    refine iff_of_true rfl (by_contra fun hgood => ?_)
    have passes : ∀ i, i < 4 → ∃ v, parseVoice p (26 + 8 * i) = some v := fun i hi =>
      Option.ne_none_iff_exists'.mp fun hn => hgood ⟨i, hi, parseVoice_eq_none_iff.mp hn⟩
    obtain ⟨a, ha⟩ : ∃ v, parseVoice p 26 = some v := passes 0 (by decide)
    obtain ⟨b, hb⟩ : ∃ v, parseVoice p 34 = some v := passes 1 (by decide)
    obtain ⟨c, hc⟩ : ∃ v, parseVoice p 42 = some v := passes 2 (by decide)
    obtain ⟨d, hd⟩ : ∃ v, parseVoice p 50 = some v := passes 3 (by decide)
    simp [parseVoices, ha, hb, hc, hd] at h

/-! ### The record -/

/-- A record is refused exactly for a bad enumeration (R117 step 1). -/
theorem parseScene_eq_none_iff {p : List Byte} : parseScene p = none ↔
    1 < (byteAt p 14).toNat ∨ 3 < (byteAt p 21).toNat ∨ ∃ v, v < 4 ∧ BadVoice p (26 + 8 * v) := by
  rw [← parseVoices_eq_none_iff, ← KeySource.ofByte_eq_none_iff]
  unfold parseScene
  cases KeySource.ofByte (byteAt p 14) with
  | none => simp
  | some ks => cases parseVoices p <;> simp [natAt, Nat.succ_le_iff]

theorem clampNat_zero (hi x : Nat) : clampNat 0 hi x = min hi x := by
  rw [clampNat_eq_max (Nat.zero_le hi), Nat.zero_max]

theorem nat16At_eq (p : List Byte) (i : Nat) : nat16At p i = 256 * (byteAt p i).toNat + (byteAt p (i + 1)).toNat :=
  word16_toNat _ _

/-- A record that passes holds its bytes field by field, numbers clamped and the name's characters replaced (R117). -/
theorem parseScene_some {p : List Byte} {sc : Scene} (h : parseScene p = some sc) :
    let u := fun (i : Nat) => (byteAt p i).toNat
    let z := fun (i : Nat) => (byteAt p i).toInt
    (sc.name = (p.take 12).map nameByte ∧
      sc.tonic = min 11 (u 12) ∧ sc.scaleIndex = min 15 (u 13) ∧
      sc.keySource = (if u 14 = 1 then .chord else .scene) ∧ sc.correction = min 100 (u 15) ∧
      sc.hysteresis = min 40 (u 16) ∧ sc.glide = min 1200 (256 * u 17 + u 18) ∧
      sc.crossfade = max 32 (min 512 (256 * u 19 + u 20)) ∧ sc.collisionAvoid = (byteAt p 21).getLsbD 0 ∧
      sc.onsetMode = (if (byteAt p 21).getLsbD 1 then .atOnset else .atVoiced) ∧
      sc.dryGain = max (-120) (min 12 (z 22)) ∧ sc.dryPan = max (-50) (min 50 (z 23)) ∧
      sc.attack = max 1 (min 32 (u 24)) ∧ sc.release = max 1 (min 64 (u 25))) ∧ parseVoices p = some sc.voices := by
  unfold parseScene at h
  split at h
  · next ks vs hks hvs =>
    rw [KeySource.ofByte_eq] at hks
    have hks := (Option.ite_none_right_eq_some.mp hks).2
    split at h
    · cases h
    · cases h
      refine ⟨⟨rfl, clampNat_zero _ _, clampNat_zero _ _, (Option.some.inj hks).symm, clampNat_zero _ _, clampNat_zero _ _,
        (clampNat_zero _ _).trans (congrArg _ (nat16At_eq p 17)),
        (clampNat_eq_max (by decide) _).trans (congrArg (fun n => max 32 (min 512 n)) (nat16At_eq p 19)), rfl, rfl,
        clampInt_eq_max (by decide) _, clampInt_eq_max (by decide) _, clampNat_eq_max (by decide) _,
        clampNat_eq_max (by decide) _⟩, hvs⟩
  · cases h

/-- Settles O41: the refusals enumeration by enumeration, the fields by the check's own clamps. -/
theorem checkedRecordsLieInRange : Obligations.CheckedRecordsLieInRange := by
  unfold Obligations.CheckedRecordsLieInRange
  refine ⟨⟨repairRange_eq, rfl, fun _ _ => rfl⟩, fun p hp => ⟨parseScene_eq_none_iff, fun sc h => ?_⟩⟩
  obtain ⟨hfields, hvoices⟩ := parseScene_some h
  have hok := parseScene_ok (by omega) h
  obtain ⟨⟨hname, -⟩, -⟩ := Scene.ok_iff.mp hok
  exact ⟨⟨hok, Scene.bytes_length hname⟩, hfields, fun i hi => parseVoice_some (parseVoices_get hvoices hi)⟩

end Sys2Proof.Machine
end

section
/-! Proofs: the law of the audio clock, and that every command keeps it (R76, R101 to R106, R113). -/

namespace Sys2Proof.Machine

theorem rampStep_le {b : Nat} (h : b ≤ 64) (mode : EngineMode) : rampStep mode b ≤ 64 := by
  cases mode <;> simp only [rampStep] <;> split <;> omega

/-- Until the start-up is over the engine stands still and no output samples wait (R76, R101). -/
theorem State.ClockOk.not_running {s : State} (hs : s.ClockOk) (h : s.start.phase ≠ .up) :
    s.engine.state ≠ .running ∧ s.port.formed.isSome = false := by
  obtain ⟨hrun, hformed, -⟩ := hs
  have hstall : s.engine.state ≠ .running := fun hr => h (hrun hr).2
  exact ⟨hstall, Bool.eq_false_iff.mpr fun hf => hstall (hformed hf)⟩

/-- The law while the engine stands still. -/
theorem State.clockOk_of_stalled {s : State} (hstall : s.engine.state ≠ .running) (hformed : s.port.formed.isSome = false)
    (hq : s.port.qualifying < 2) (hpresent : s.port.clock = .present → s.port.qualifying = 0) (hr : s.mixer.ramp ≤ 64) :
    s.ClockOk :=
  ⟨fun h => absurd h hstall, fun h => by simp [hformed] at h, hq, hpresent, hr⟩

/-- The law where engine, port, mixer and start-up do not change. -/
theorem State.clockOk_of_changesOnly {l : List Block} {s t : State} (hs : s.ClockOk) (h : s.ChangesOnly l t)
    (hl : [Block.engine, .port, .mixer, .start].all (· ∉ l) = true) : t.ClockOk := by
  simp only [List.all_cons, List.all_nil, Bool.and_eq_true, decide_eq_true_eq, and_true] at hl
  obtain ⟨he, hp, hm, hst⟩ := hl
  have ee : t.engine = s.engine := h.2 _ he
  have ep : t.port = s.port := h.2 _ hp
  have em : t.mixer = s.mixer := h.2 _ hm
  have es : t.start = s.start := h.2 _ hst
  rw [State.ClockOk, ee, ep, em, es]
  exact hs

theorem State.takeReset_clockOk (s : State) (kind : ResetKind) (high : Bool) (phase : StartPhase) :
    (s.takeReset kind high phase).ClockOk :=
  State.clockOk_of_stalled (by simp [State.takeReset, engineAtRest]) rfl (by decide : 0 < 2) (fun _ => rfl) (le_refl 64)

/-! ### The clock's loss and return -/

/-- A clock declared absent stalls the engine and discards the samples that wait (R103, R104). -/
theorem State.declareAbsent_clockOk {s : State} (hr : s.mixer.ramp ≤ 64) : s.declareAbsent.ClockOk := by
  refine State.clockOk_of_stalled ?_ rfl (by decide : 0 < 2) (fun _ => rfl) hr
  simp only [State.declareAbsent]
  split
  · simp
  · assumption

/-- A return sets the ramp to one of its ends (R114). -/
theorem State.audioReturn_ramp_le (s : State) : s.audioReturn.mixer.ramp ≤ 64 := by
  simp only [State.audioReturn, mixerWith]
  split <;> decide

theorem State.audioReturn_clockOk {s : State} (hs : s.ClockOk) : s.audioReturn.ClockOk := by
  obtain ⟨hrun, hformed, hq, hpresent, -⟩ := hs
  exact ⟨hrun, hformed, hq, hpresent, s.audioReturn_ramp_le⟩

/-- The engine may restart where the clock is PRESENT and the part is up (R98). -/
theorem State.clockReturn_clockOk {s : State} (hc : s.port.clock = .present) (hup : s.start.phase = .up)
    (hq : s.port.qualifying = 0) : s.clockReturn.ClockOk :=
  ⟨fun _ => ⟨hc, hup⟩, fun _ => rfl, by simp [hq], fun _ => by simp [hq], s.audioReturn_ramp_le⟩

theorem State.declarePresent_clockOk {s : State} (hs : s.ClockOk) : s.declarePresent.ClockOk := by
  obtain ⟨hrun, hformed, -, -, hr⟩ := hs
  unfold State.declarePresent
  dsimp only
  split
  · next h => exact State.clockReturn_clockOk rfl h.2 rfl
  · exact State.audioReturn_clockOk ⟨fun h => ⟨rfl, (hrun h).2⟩, hformed, (by decide : 0 < 2), fun _ => rfl, hr⟩

/-- A window's end declares the clock absent or present, or counts windows in range up to one (R104, R105). -/
theorem execMeasurementWindowEnd_clockOk {s t : State} (hs : s.ClockOk) (h : execMeasurementWindowEnd s = .next t) :
    t.ClockOk := by
  cases h
  split
  · exact hs
  have h1 : State.ClockOk { s with port := s.port.nextWindow } := hs
  obtain ⟨hrun, hformed, -, -, hr⟩ := hs
  dsimp only
  split
  · split
    · exact h1
    · exact State.declareAbsent_clockOk hr
  · next habsent =>
    split
    · exact ⟨hrun, hformed, (by decide : 0 < 2), fun _ => rfl, hr⟩
    split
    · exact h1
    split
    · next hq => exact ⟨hrun, hformed, hq, fun hp => absurd hp habsent, hr⟩
    · exact State.declarePresent_clockOk h1

theorem execClockGapTimeout_clockOk {s t : State} (hs : s.ClockOk) (h : execClockGapTimeout s = .next t) : t.ClockOk := by
  cases h
  split
  · exact hs
  obtain ⟨hrun, hformed, -, -, hr⟩ := hs
  dsimp only
  split
  · exact State.declareAbsent_clockOk hr
  · exact ⟨hrun, hformed, (by decide : 0 < 2), fun _ => rfl, hr⟩

/-! ### The start-up -/

/-- The self-check's end leaves the part up, its engine running only on a PRESENT clock (R101, R181). -/
theorem State.startEngine_clockOk {s : State} (hs : s.ClockOk) (h : s.start.phase ≠ .up) (ramFault : Bool) (kind : ResetKind) :
    State.ClockOk { s.startEngine ramFault with start := ⟨.up, kind⟩ } := by
  obtain ⟨-, hformed⟩ := hs.not_running h
  obtain ⟨-, -, hq, hpresent, hr⟩ := hs
  unfold State.startEngine
  split
  · exact State.clockOk_of_stalled (by simp) hformed hq hpresent hr
  · split
    · next hc => exact State.clockReturn_clockOk (s := { s with start := ⟨.up, kind⟩ }) hc rfl (hpresent hc)
    · exact State.clockOk_of_stalled (by simp) hformed hq hpresent hr

theorem execSelfCheckEnd_clockOk {ramFault storeUnreadable : Bool} {s t : State} (hs : s.ClockOk)
    (h : execSelfCheckEnd ramFault storeUnreadable s = .next t) : t.ClockOk := by
  cases h
  split
  · next hcheck =>
    have hphase : s.start.phase ≠ .up := by simp [hcheck]
    cases storeUnreadable with
    | true => exact State.startEngine_clockOk (s := s.storeUnreadable) hs hphase ramFault _
    | false => exact State.startEngine_clockOk hs hphase ramFault _
  · exact hs

/-! ### Sample events -/

/-- A sample event of a running engine forms output samples and steps the ramp (R102, R113). -/
theorem State.takeSample_clockOk {s : State} (hs : s.ClockOk) (hrun : s.engine.state = .running) (x : Sample) :
    (s.takeSample x).ClockOk := by
  obtain ⟨hpresent, -, hq, hq0, hr⟩ := hs
  have he : (s.takeSample x).engine.state = .running := by rw [State.takeSample_engine]; exact hrun
  have hst : (s.takeSample x).start = s.start := by rw [s.takeSample_frame x]
  rw [State.ClockOk, hst, he, State.takeSample_port, State.takeSample_mixer]
  exact ⟨fun _ => hpresent hrun, fun _ => rfl, hq, hq0, rampStep_le hr _⟩

theorem State.completeFrame_clockOk {s : State} (hs : s.ClockOk) : s.completeFrame.ClockOk := by
  have hst : s.completeFrame.start = s.start := by rw [s.completeFrame_frame]
  rw [State.ClockOk, hst, State.completeFrame_engine, State.completeFrame_port, State.completeFrame_mixer]
  exact hs

theorem engineModeWork_clockOk {s : State} (hs : s.ClockOk) (a : Byte) : (engineModeWork a s).1.ClockOk := by
  unfold engineModeWork
  split <;> exact hs

/-! ### Every command -/

/-- Every command keeps the law of the clock. -/
theorem exec_clockOk {c : Instr} {s t : State} (hs : s.ClockOk) (h : exec c s = .next t) : t.ClockOk := by
  cases c with
  | powerOnReset _ | pinReset _ => cases h; exact State.takeReset_clockOk s _ _ _
  | softReset _ =>
    cases h
    split
    · exact State.takeReset_clockOk s _ _ _
    · exact hs
  | resetnRelease =>
    cases h
    split
    · next hheld =>
      obtain ⟨hstall, hformed⟩ := hs.not_running (by simp [hheld])
      obtain ⟨-, -, hq, hpresent, hr⟩ := hs
      exact State.clockOk_of_stalled hstall hformed hq hpresent hr
    · exact hs
  | selfCheckEnd _ _ => exact execSelfCheckEnd_clockOk hs h
  | sampleEvent x =>
    cases h
    split
    · next hrun =>
      have h1 := State.takeSample_clockOk hs hrun x
      unfold State.sampleEvent
      split
      · exact State.completeFrame_clockOk h1
      · exact h1
    · exact hs
  | frameCompletion x =>
    cases h
    split
    · next hrun => exact State.completeFrame_clockOk (State.takeSample_clockOk hs hrun.1 x)
    · exact hs
  | clockGapTimeout => exact execClockGapTimeout_clockOk hs h
  | measurementWindowEnd => exact execMeasurementWindowEnd_clockOk hs h
  | frameClockEdge =>
    cases h
    split
    · exact hs
    · exact ⟨hs.1, nofun, hs.2.2⟩
  | setEngineMode _ _ =>
    cases h
    exact dispatch_keeps (P := State.ClockOk) (fun _ _ h => h) (fun a _ hu => engineModeWork_clockOk hu a) hs
  | _ => exact State.clockOk_of_changesOnly hs (exec_changesOnly h) rfl

end Sys2Proof.Machine
end

section
/-! Proofs: what a command can do to the Working Scene and the overlay's mapping, and the laws of live follow and of the
origin (R119, R131). -/

namespace Sys2Proof.Machine

/-! ### What a command can do -/

/-- The source a load writes into the origin: INLINE, a slot of the store, or a slot of the overlay that is mapped to the bank
(R121, R122). -/
inductive OriginSource.Loads (mapped : Option Nat) : OriginSource → Prop
  | inline : Loads mapped .inline
  | slot {b i : Nat} (hb : b ≤ 7) (hi : i ≤ 7) : Loads mapped (.slot b i)
  | overlay {b i : Nat} (hb : b ≤ 7) (hi : i ≤ 7) (hm : mapped = some b) : Loads mapped (.overlay b i false)

/-- The Working Scene and the overlay after a command on the queued cues `q`, the Working Scene `w` and the overlay `o`. -/
inductive SceneMove (q : List Cue) (w : Working) (o : Overlay) : Working → Overlay → Prop
  /-- Nothing changes but the record in force and the origin's edited mark (R124). -/
  | edited (sc : Scene) (e : Bool) : SceneMove q w o { w with scene := sc, origin := { w.origin with edited := e } } o
  | reset : SceneMove q w o workingAtReset overlayAtReset
  | landed {c : Cue} (hc : c ∈ q) : SceneMove q w o ⟨c.scene, ⟨.cue c.tag, false⟩, none⟩ o
  | loaded (sc : Scene) {src : OriginSource} (hsrc : src.Loads o.mapped) : SceneMove q w o ⟨sc, ⟨src, false⟩, none⟩ o
  | followed : SceneMove q w o w.takeFollow o
  /-- OVERLAY ON: an origin of another bank is detached (R128). -/
  | mapped {b : Nat} (hb : b ≤ 7) (ram : Vector (Option Scene) 8) :
    SceneMove q w o ⟨w.scene, { w.origin with source := w.origin.source.detachIf fun b' => b' ≠ b }, none⟩ ⟨some b, ram⟩
  /-- OVERLAY OFF: every overlay origin is detached (R133). -/
  | unmapped : SceneMove q w o ⟨w.scene, { w.origin with source := w.origin.source.detachIf fun _ => true }, none⟩
      { o with mapped := none }
  /-- OVERLAY WRITE: a slot that is followed sends its record on (R131). -/
  | written (i : Nat) (sc : Scene) (ram : Vector (Option Scene) 8) :
    SceneMove q w o { w with follow := if w.origin.source.follows i then some ⟨i, sc⟩ else w.follow } { o with ram := ram }

/-- `t` has a Working Scene and an overlay that a command on `s` can leave. -/
abbrev State.SceneMoves (s t : State) : Prop := SceneMove s.cues.queue s.working s.overlay t.working t.overlay

theorem SceneMove.kept (q : List Cue) (w : Working) (o : Overlay) : SceneMove q w o w o := .edited w.scene w.origin.edited

theorem State.SceneMoves.refl (s : State) : s.SceneMoves s := .kept ..

/-- A landing at the head puts the head's scene in force (R139). -/
theorem State.landHead_sceneMoves {s : State} {c : Cue} {rest : List Cue} (hq : s.cues.queue = c :: rest) (how : How) :
    s.SceneMoves (s.landHead c rest how) := by
  rw [State.SceneMoves, State.landHead_working, State.landHead_overlay]
  exact .landed (by simp [hq])

theorem State.triggerHead_sceneMoves {s : State} {c : Cue} {rest : List Cue} (hq : s.cues.queue = c :: rest) :
    s.SceneMoves (s.triggerHead c rest).1 := by
  unfold State.triggerHead
  split
  · exact State.landHead_sceneMoves hq _
  · exact .kept ..

theorem State.phraseStartAtHead_sceneMoves (s : State) : s.SceneMoves s.phraseStartAtHead := by
  unfold State.phraseStartAtHead
  split
  · exact .refl s
  · next hq =>
    split
    · exact State.landHead_sceneMoves hq _
    · split
      · exact State.triggerHead_sceneMoves hq
      · exact .refl s

theorem fireWork_sceneMoves (a : Unit) (s : State) : s.SceneMoves (fireWork a s).1 := by
  unfold fireWork
  split
  · exact .refl s
  · next hq =>
    dsimp only
    split
    · exact State.landHead_sceneMoves hq _
    · exact State.triggerHead_sceneMoves hq

theorem beatWork_sceneMoves (a : Unit) (s : State) : s.SceneMoves (beatWork a s).1 := by
  unfold beatWork
  split
  · exact .refl s
  · next hq =>
    dsimp only
    split
    · exact State.landHead_sceneMoves (s := { s with cues := { s.cues with counter := raiseCounter s.cues.counter } }) hq _
    · split
      · exact State.triggerHead_sceneMoves
          (s := { s with cues := { s.cues with counter := raiseCounter s.cues.counter } }) hq
      · exact .kept ..

theorem State.loadRecord_sceneMoves (s : State) (sc : Scene) {src : OriginSource} (hsrc : src.Loads s.overlay.mapped) :
    s.SceneMoves (s.loadRecord sc src) := by
  rw [State.SceneMoves, State.loadRecord, State.removeAll_working, State.removeAll_overlay]
  exact .loaded sc hsrc

/-- A record read from the overlay is one of the bank mapped (R129). -/
theorem State.readSlot_overlay {s : State} {b i : Nat} {r : Scene} (h : s.readSlot b i = .overlay r) :
    s.overlay.mapped = some b := by
  unfold State.readSlot at h
  split at h
  · assumption
  · split at h
    · cases h
    · split at h <;> cases h

theorem loadSceneWork_sceneMoves (a : Byte × Byte) (s : State) : s.SceneMoves (loadSceneWork a s).1 := by
  unfold loadSceneWork
  dsimp only
  split
  · exact .refl s
  · next hrange =>
    obtain ⟨hb, hi⟩ : a.1.toNat ≤ 7 ∧ a.2.toNat ≤ 7 := by omega
    split
    · next h => exact s.loadRecord_sceneMoves _ (.overlay hb hi (State.readSlot_overlay h))
    · exact s.loadRecord_sceneMoves _ (.slot hb hi)
    · exact .refl s
    · exact .refl s

theorem loadInlineWork_sceneMoves (p : List Byte) (s : State) : s.SceneMoves (loadInlineWork p s).1 := by
  unfold loadInlineWork
  split
  · exact .refl s
  · exact s.loadRecord_sceneMoves _ .inline

theorem editWork_sceneMoves (a : Byte × Byte × Byte × Byte) (s : State) : s.SceneMoves (editWork a s).1 := by
  unfold editWork
  dsimp only
  split
  · exact .refl s
  · exact .edited _ true

theorem overlayOnWork_sceneMoves (a : Byte) (s : State) : s.SceneMoves (overlayOnWork a s).1 := by
  unfold overlayOnWork
  split
  · exact .refl s
  split
  · exact .refl s
  split
  · exact .refl s
  · exact .mapped (by omega) _

theorem overlayOffWork_sceneMoves (a : Unit) (s : State) : s.SceneMoves (overlayOffWork a s).1 := by
  unfold overlayOffWork
  dsimp only
  split
  · exact .refl s
  · exact .unmapped

theorem overlayWriteWork_sceneMoves (p : List Byte) (s : State) : s.SceneMoves (overlayWriteWork p s).1 := by
  unfold overlayWriteWork
  dsimp only
  split
  · exact .refl s
  · split
    · exact .refl s
    · exact .written _ _ _

theorem State.takeReset_sceneMoves (s : State) (kind : ResetKind) (high : Bool) (phase : StartPhase) :
    s.SceneMoves (s.takeReset kind high phase) := .reset

theorem State.completeFrame_takeSample_sceneMoves (s : State) (x : Sample) :
    s.SceneMoves (s.takeSample x).completeFrame := by
  have ho : (s.takeSample x).completeFrame.overlay = s.overlay := by
    rw [(s.takeSample x).completeFrame_frame, s.takeSample_frame x]
  rw [State.SceneMoves, State.completeFrame_working, State.takeSample_working, ho]
  exact .followed

theorem State.sceneMoves_of_changesOnly {l : List Block} {s t : State} (h : s.ChangesOnly l t)
    (hl : [Block.working, .overlay].all (· ∉ l) = true) : s.SceneMoves t := by
  simp only [List.all_cons, List.all_nil, Bool.and_eq_true, decide_eq_true_eq, and_true] at hl
  have ew : t.working = s.working := h.2 _ hl.1
  have eo : t.overlay = s.overlay := h.2 _ hl.2
  rw [State.SceneMoves, ew, eo]
  exact .kept ..

/-- A dispatched request moves the Working Scene and the overlay as its work does. -/
theorem dispatch_sceneMoves {α : Type} {kind seq : Byte} {payload : List Byte} {parse : List Byte → Option α}
    {work : α → State → State × Reply} {s : State} (hwork : ∀ a u, State.SceneMoves u (work a u).1) :
    s.SceneMoves (dispatch kind seq payload parse work s) := by
  rcases dispatch_cases kind seq payload parse work s with ⟨-, h1⟩ | ⟨s1, ht, ⟨-, h1⟩ | ⟨a, -, h1⟩⟩
  · rw [h1]; exact .refl s
  all_goals
    rw [h1]
    obtain ⟨-, rfl⟩ := State.take_eq_some.mp ht
  · exact .kept ..
  · exact hwork a { s with link := { s.link with fifo := s.link.fifo.tail } }

/-- All that a command can do to the Working Scene and the overlay. -/
theorem exec_sceneMoves {c : Instr} {s t : State} (h : exec c s = .next t) : s.SceneMoves t := by
  cases c with
  | powerOnReset _ | pinReset _ => cases h; exact s.takeReset_sceneMoves _ _ _
  | softReset _ =>
    cases h
    split
    · exact s.takeReset_sceneMoves _ _ _
    · exact .refl s
  | sampleEvent x =>
    cases h
    split
    · unfold State.sampleEvent
      split
      · exact s.completeFrame_takeSample_sceneMoves x
      · rw [s.takeSample_frame x]
        exact .kept ..
    · exact .refl s
  | frameCompletion x =>
    cases h
    split
    · exact s.completeFrame_takeSample_sceneMoves x
    · exact .refl s
  | phraseStart =>
    cases h
    split
    · exact State.phraseStartAtHead_sceneMoves
        { s with tracker := { s.tracker with phraseStartsAwaiting := s.tracker.phraseStartsAwaiting - 1 } }
    · exact .refl s
  | loadScene _ _ => cases h; exact dispatch_sceneMoves loadSceneWork_sceneMoves
  | loadInlineScene _ _ => cases h; exact dispatch_sceneMoves loadInlineWork_sceneMoves
  | editWorkingScene _ _ => cases h; exact dispatch_sceneMoves editWork_sceneMoves
  | fire _ _ => cases h; exact dispatch_sceneMoves fireWork_sceneMoves
  | beat _ _ => cases h; exact dispatch_sceneMoves beatWork_sceneMoves
  | overlayOn _ _ => cases h; exact dispatch_sceneMoves overlayOnWork_sceneMoves
  | overlayOff _ _ => cases h; exact dispatch_sceneMoves overlayOffWork_sceneMoves
  | overlayWrite _ _ => cases h; exact dispatch_sceneMoves overlayWriteWork_sceneMoves
  | _ => exact State.sceneMoves_of_changesOnly (exec_changesOnly h) rfl

/-! ### Live follow (R119, R131) -/

/-- A load from the overlay names the bank mapped (R121). -/
theorem OriginSource.Loads.attached {mapped : Option Nat} {src : OriginSource} (h : src.Loads mapped) :
    src.Attached mapped = true := by
  cases h with
  | inline => rfl
  | slot _ _ => rfl
  | overlay _ _ hm => simp [OriginSource.Attached, hm]

/-- Once a bank is mapped, an origin of the overlay that stays attached is one of it (R128). -/
theorem OriginSource.detachIf_ne_attached (src : OriginSource) (b : Nat) :
    (src.detachIf fun b' => b' ≠ b).Attached (some b) = true := by
  cases src with
  | overlay b' i d =>
    by_cases hb : b' = b
    · cases d <;> simp [OriginSource.detachIf, OriginSource.Attached, hb]
    · simp [OriginSource.detachIf, OriginSource.Attached, hb]
  | _ => rfl

/-- Once every origin of the overlay is detached, none names a bank that must be mapped (R133). -/
theorem OriginSource.detachIf_true_attached (src : OriginSource) (mapped : Option Nat) :
    (src.detachIf fun _ => true).Attached mapped = true := by
  cases src with
  | overlay b i d => simp [OriginSource.detachIf, OriginSource.Attached]
  | _ => rfl

/-- The law of live follow, of a Working Scene and an overlay. -/
abbrev FollowLaw (w : Working) (o : Overlay) : Prop :=
  w.origin.source.Attached o.mapped = true ∧ (∀ f ∈ w.follow, w.origin.source.follows f.slot = true) ∧
    ∀ b ∈ o.mapped, b ≤ 7

/-- Every move of Working Scene and overlay keeps the law of live follow. -/
theorem SceneMove.followLaw {q : List Cue} {w w' : Working} {o o' : Overlay} (h : SceneMove q w o w' o')
    (hs : FollowLaw w o) : FollowLaw w' o' := by
  obtain ⟨hattached, hfollow, hmapped⟩ := hs
  cases h with
  | edited sc e => exact ⟨hattached, hfollow, hmapped⟩
  | reset => exact reset_followOk
  | landed hc => exact ⟨rfl, by simp, hmapped⟩
  | loaded sc hsrc => exact ⟨hsrc.attached, by simp, hmapped⟩
  | followed =>
    unfold Working.takeFollow
    split
    · exact ⟨hattached, by simp, hmapped⟩
    · exact ⟨hattached, hfollow, hmapped⟩
  | mapped hb ram => exact ⟨OriginSource.detachIf_ne_attached _ _, by simp, by rintro _ ⟨⟩; exact hb⟩
  | unmapped => exact ⟨OriginSource.detachIf_true_attached _ _, by simp, by simp⟩
  | written i sc ram =>
    refine ⟨hattached, ?_, hmapped⟩
    dsimp only
    split
    · next hi => rintro _ ⟨⟩; exact hi
    · exact hfollow

/-- Every command keeps the law of live follow. -/
theorem exec_followOk {c : Instr} {s t : State} (hs : s.FollowOk) (h : exec c s = .next t) : t.FollowOk :=
  (exec_sceneMoves h).followLaw hs

/-! ### The origin (R119) -/

theorem OriginSource.Loads.ok {mapped : Option Nat} {src : OriginSource} (h : src.Loads mapped) : src.Ok = true := by
  cases h with
  | inline => rfl
  | slot hb hi | overlay hb hi _ => simp [OriginSource.Ok, hb, hi]

theorem OriginSource.detachIf_ok (src : OriginSource) (p : Nat → Bool) : (src.detachIf p).Ok = src.Ok := by
  cases src <;> rfl

theorem Working.takeFollow_source (w : Working) : w.takeFollow.origin.source = w.origin.source := by
  unfold Working.takeFollow
  split <;> rfl

/-- Every move keeps the origin in range: a landing names the tag of a cue (R119, R135). -/
theorem SceneMove.originOk {q : List Cue} {w w' : Working} {o o' : Overlay} (h : SceneMove q w o w' o')
    (hq : ∀ c ∈ q, 1 ≤ c.tag ∧ c.tag ≤ 255) (hs : w.origin.source.Ok = true) : w'.origin.source.Ok = true := by
  cases h with
  | edited sc e => exact hs
  | reset => rfl
  | landed hc => simpa [OriginSource.Ok] using hq _ hc
  | loaded sc hsrc => exact hsrc.ok
  | followed => rw [Working.takeFollow_source]; exact hs
  | mapped hb ram => exact (OriginSource.detachIf_ok _ _).trans hs
  | unmapped => exact (OriginSource.detachIf_ok _ _).trans hs
  | written i sc ram => exact hs

/-- Every command on cues under their law keeps the origin in range. -/
theorem exec_originOk {c : Instr} {s t : State} (hq : s.cues.Ok) (hs : s.working.origin.source.Ok = true)
    (h : exec c s = .next t) : t.working.origin.source.Ok = true := by
  obtain ⟨-, -, hcues, -⟩ := hq
  exact (exec_sceneMoves h).originOk (fun c hc => (hcues c hc).1) hs

end Sys2Proof.Machine
end

section
/-! Proofs: the law of the notice sets, and that every command keeps it (R175, R178, R179). -/

namespace Sys2Proof.Machine

/-! ### The Notice Unit's operations -/

/-- Every source stands among its group's sources (10.1). -/
theorem Source.bit_and_group (src : Source) : src.bit &&& groupSources src.group = src.bit := by
  cases src <;> decide

theorem Notices.raise_ok {u : Notices} (h : u.Ok) (src : Source) : (u.raise src).Ok := by
  obtain ⟨hl, hm, hp, he⟩ := h
  refine ⟨hl, hm, fun g => ?_, he⟩
  rw [Fin.getElem_fin, Notices.raise_pending_getElem u src g.isLt]
  split
  · next hg =>
    have hg : src.group = g := Fin.ext hg
    rw [← hg, BitVec.and_comm, BitVec.and_or_distrib_left, BitVec.and_comm _ src.bit, src.bit_and_group,
      BitVec.and_comm, ← Fin.getElem_fin, hp src.group]
  · exact hp g

theorem Notices.raised_ok {u : Notices} (h : u.Ok) (cs : List (Bool × Source)) : (u.raised cs).Ok := by
  refine List.foldlRecOn (motive := Notices.Ok) cs _ h fun v hv c _ => ?_
  split
  · exact Notices.raise_ok hv _
  · exact hv

/-- Removing sources leaves those of the group alone (R178). -/
theorem Notices.clear_ok {u : Notices} (h : u.Ok) (g : Fin 6) (set : NoticeSet) : (u.clear g set).Ok := by
  obtain ⟨hl, hm, hp, he⟩ := h
  refine ⟨hl, hm, fun k => ?_, he⟩
  rw [Fin.getElem_fin, Notices.clear, Vector.getElem_set]
  split
  · next hk =>
    rw [← Fin.ext hk, BitVec.and_assoc, BitVec.and_comm (~~~set), ← BitVec.and_assoc, hp g]
  · exact hp k

/-- A stored configuration is clamped, and its sets hold their group's sources alone (R179). -/
theorem Notices.configure_ok {u : Notices} (h : u.Ok) (p : List Byte) : (u.configure p).Ok := by
  obtain ⟨-, -, hp, -⟩ := h
  refine ⟨?_, clampNat_le (by decide : 0 ≤ 7) _, hp, fun g => ?_⟩
  · intro x hx
    rw [Notices.configure, Vector.toList_ofFn, List.mem_ofFn] at hx
    obtain ⟨i, rfl⟩ := hx
    exact clampNat_le (by decide : 0 ≤ 7) _
  · cases g using Fin.cases with
    | zero => simp [Notices.enabledOf, groupSources]
    | succ i => simp [Notices.enabledOf, Notices.configure, Fin.succ_ne_zero, BitVec.and_assoc]

/-! ### Raising sources in the state -/

theorem State.raiseIf_noticesOk {s : State} (hs : s.notices.Ok) (c : Bool) (src : Source) :
    (s.raiseIf c src).notices.Ok := by
  cases c with
  | true => exact Notices.raise_ok hs src
  | false => exact hs

theorem State.applyKey_noticesOk {s : State} (hs : s.notices.Ok) (r : KeyResult) : (s.applyKey r).notices.Ok := by
  rw [State.applyKey_eq]
  exact Notices.raised_ok hs _

theorem noteWork_noticesOk (a : Byte × Byte) {s : State} (hs : s.notices.Ok) : (noteWork a s).1.notices.Ok := by
  unfold noteWork
  split
  · exact hs
  · exact State.applyKey_noticesOk hs _

theorem State.offer_noticesOk {s : State} (hs : s.notices.Ok) (e : FifoEntry) : (s.offer e).notices.Ok := by
  unfold State.offer
  split
  · exact hs
  · exact Notices.raise_ok hs _

theorem State.applyByte_noticesOk {s : State} (hs : s.notices.Ok) (e : ByteEffect) : (s.applyByte e).notices.Ok := by
  cases e with
  | state a => exact hs
  | frame k q p => exact State.offer_noticesOk (s := { s with link := { s.link with assembler := .hunt } }) hs _
  | fault c => exact State.offer_noticesOk (s := { s with link := { s.link with assembler := .hunt } }) hs _

theorem State.takeSample_noticesOk {s : State} (hs : s.notices.Ok) (x : Sample) : (s.takeSample x).notices.Ok := by
  rw [State.takeSample_notices]
  exact Notices.raised_ok hs _

theorem State.completeFrame_noticesOk {s : State} (hs : s.notices.Ok) : s.completeFrame.notices.Ok := by
  rw [State.completeFrame_notices]
  exact Notices.raised_ok hs _

theorem execMeasurementWindowEnd_noticesOk {s t : State} (hs : s.notices.Ok)
    (h : execMeasurementWindowEnd s = .next t) : t.notices.Ok := by
  cases h
  split
  · exact hs
  dsimp only
  split
  · split
    · exact hs
    · exact Notices.raise_ok hs _
  split
  · exact hs
  split
  · exact hs
  split
  · exact hs
  · rw [State.declarePresent_frame]
    exact hs

theorem execSelfCheckEnd_noticesOk {ramFault storeUnreadable : Bool} {s t : State} (hs : s.notices.Ok)
    (h : execSelfCheckEnd ramFault storeUnreadable s = .next t) : t.notices.Ok := by
  cases h
  split
  · rw [State.queueFrame_notices]
    dsimp only
    rw [State.startEngine_frame]
    cases storeUnreadable with
    | true => exact Notices.raise_ok hs _
    | false => exact hs
  · exact hs

/-! ### The Cue Queue's operations -/

theorem State.recordRemoval_noticesOk {s : State} (hs : s.notices.Ok) (c : Cue) (o : CueOutcome) :
    (s.recordRemoval c o).notices.Ok := by
  rw [State.recordRemoval_notices]
  split
  · exact Notices.raise_ok (Notices.raise_ok hs _) _
  · exact Notices.raise_ok hs _

theorem State.removeAll_noticesOk {s : State} (hs : s.notices.Ok) (o : CueOutcome) : (s.removeAll o).notices.Ok :=
  List.foldlRecOn (motive := fun u : State => u.notices.Ok) s.cues.queue _ hs
    fun _ hu c _ => State.recordRemoval_noticesOk hu c o

theorem State.landHead_noticesOk {s : State} (hs : s.notices.Ok) (c : Cue) (rest : List Cue) (how : How) :
    (s.landHead c rest how).notices.Ok :=
  State.recordRemoval_noticesOk (s := { s with working := { scene := c.scene, origin := ⟨.cue c.tag, false⟩, follow := none } })
    hs c _

theorem State.triggerHead_noticesOk {s : State} (hs : s.notices.Ok) (c : Cue) (rest : List Cue) :
    (s.triggerHead c rest).1.notices.Ok := by
  unfold State.triggerHead
  split
  · exact State.landHead_noticesOk hs _ _ _
  · exact hs

theorem State.phraseStartAtHead_noticesOk {s : State} (hs : s.notices.Ok) : s.phraseStartAtHead.notices.Ok := by
  unfold State.phraseStartAtHead
  split
  · exact hs
  split
  · exact State.landHead_noticesOk hs _ _ _
  split
  · exact State.triggerHead_noticesOk hs _ _
  · exact hs

theorem fireWork_noticesOk (a : Unit) {s : State} (hs : s.notices.Ok) : (fireWork a s).1.notices.Ok := by
  unfold fireWork
  split
  · exact hs
  dsimp only
  split
  · exact State.landHead_noticesOk hs _ _ _
  · exact State.triggerHead_noticesOk hs _ _

theorem beatWork_noticesOk (a : Unit) {s : State} (hs : s.notices.Ok) : (beatWork a s).1.notices.Ok := by
  unfold beatWork
  split
  · exact hs
  dsimp only
  split
  · exact State.landHead_noticesOk (by exact hs) _ _ _
  split
  · exact State.triggerHead_noticesOk (by exact hs) _ _
  · exact hs

theorem cancelWork_noticesOk (a : Byte) {s : State} (hs : s.notices.Ok) : (cancelWork a s).1.notices.Ok := by
  unfold cancelWork
  split
  · exact hs
  split
  · exact hs
  · exact State.recordRemoval_noticesOk hs _ _

theorem enqueueWork_noticesOk (a : EnqueueFields) {s : State} (hs : s.notices.Ok) : (enqueueWork a s).1.notices.Ok := by
  unfold enqueueWork
  split
  · exact hs
  split
  · exact State.removeAll_noticesOk hs _
  split
  · exact hs
  split <;> exact hs

/-- A load discards every cue (R147). -/
theorem State.loadRecord_noticesOk {s : State} (hs : s.notices.Ok) (sc : Scene) (src : OriginSource) :
    (s.loadRecord sc src).notices.Ok :=
  State.removeAll_noticesOk (s := { s with working := { scene := sc, origin := ⟨src, false⟩, follow := none } }) hs _

theorem loadSceneWork_noticesOk (a : Byte × Byte) {s : State} (hs : s.notices.Ok) : (loadSceneWork a s).1.notices.Ok := by
  unfold loadSceneWork
  dsimp only
  split
  · exact hs
  split
  · exact State.loadRecord_noticesOk hs _ _
  · exact State.loadRecord_noticesOk hs _ _
  · exact hs
  · exact hs

theorem loadInlineWork_noticesOk (p : List Byte) {s : State} (hs : s.notices.Ok) : (loadInlineWork p s).1.notices.Ok := by
  unfold loadInlineWork
  split
  · exact hs
  · exact State.loadRecord_noticesOk hs _ _

/-! ### The store's operation -/

theorem State.failOp_noticesOk {s : State} (hs : s.notices.Ok) (o : StoreOp) (c : FailureCause) :
    (s.failOp o c).notices.Ok :=
  State.raiseIf_noticesOk (Notices.raise_ok hs _) _ _

theorem State.finishOp_noticesOk {s : State} (hs : s.notices.Ok) (o : StoreOp) : (s.finishOp o).notices.Ok :=
  Notices.raise_ok hs _

theorem State.passTime_noticesOk {s : State} (hs : s.notices.Ok) (o : StoreOp) (micros : Nat) {event : StoreOp → State}
    (he : ∀ o', (event o').notices.Ok) : (s.passTime o micros event).notices.Ok := by
  unfold State.passTime
  split
  · exact State.failOp_noticesOk hs _ _
  · exact he _

theorem State.advanceOp_noticesOk {s : State} (hs : s.notices.Ok) (o : StoreOp) : (s.advanceOp o).notices.Ok := by
  unfold State.advanceOp
  split
  · exact hs
  · exact hs
  · exact State.finishOp_noticesOk (s := { s with store := s.store.setSlot _ _ _ }) hs _
  · exact hs
  · exact hs
  · exact hs

theorem State.endPulse_noticesOk {s : State} (hs : s.notices.Ok) (verified : Bool) (o : StoreOp) :
    (s.endPulse verified o).notices.Ok := by
  unfold State.endPulse
  split
  · exact State.advanceOp_noticesOk hs o
  split
  · exact State.failOp_noticesOk hs _ _
  · exact hs

theorem State.endErasePulse_noticesOk {s : State} (hs : s.notices.Ok) (erased : Bool) (b n : Nat) (o : StoreOp) :
    (s.endErasePulse erased b n o).notices.Ok := by
  unfold State.endErasePulse
  split
  · exact State.finishOp_noticesOk (s := { s with store := s.store.blankBank b }) hs _
  split
  · exact State.failOp_noticesOk hs _ _
  · exact hs

theorem State.passToStatus_noticesOk {s : State} (hs : s.notices.Ok) (since : Nat) : (s.passToStatus since).notices.Ok := by
  unfold State.passToStatus
  split
  · split
    · exact State.failOp_noticesOk hs _ _
    · exact hs
  · exact hs

theorem execProgrammingVoltageReady_noticesOk {wait : Nat} {s t : State} (hs : s.notices.Ok)
    (h : execProgrammingVoltageReady wait s = .next t) : t.notices.Ok := by
  cases h
  split
  · split
    · exact State.passTime_noticesOk hs _ _ fun _ => hs
    · exact hs
  · exact hs

theorem execStorePulseVerify_noticesOk {verified : Bool} {s t : State} (hs : s.notices.Ok)
    (h : execStorePulseVerify verified s = .next t) : t.notices.Ok := by
  cases h
  split
  · split
    · exact State.passTime_noticesOk hs _ _ fun o => State.endPulse_noticesOk hs _ o
    · exact hs
  · exact hs

theorem execErasePulseVerify_noticesOk {erased : Bool} {s t : State} (hs : s.notices.Ok)
    (h : execErasePulseVerify erased s = .next t) : t.notices.Ok := by
  cases h
  split
  · split
    · exact State.passTime_noticesOk hs _ _ fun o => State.endErasePulse_noticesOk hs _ _ _ o
    · exact hs
  · exact hs

theorem execTimerExpiry_noticesOk {s t : State} (hs : s.notices.Ok) (h : execTimerExpiry s = .next t) : t.notices.Ok := by
  cases h
  split
  · exact State.failOp_noticesOk hs _ _
  · exact hs

theorem execSupplyLoss_noticesOk {since : Nat} {s t : State} (hs : s.notices.Ok)
    (h : execSupplyLoss since s = .next t) : t.notices.Ok := by
  cases h
  dsimp only
  split
  · exact State.passTime_noticesOk (by exact hs) _ _ fun o => State.failOp_noticesOk (by exact hs) o _
  · exact hs

/-! ### Every command -/

theorem clearNoticesWork_noticesOk (a : Byte × Byte) {s : State} (hs : s.notices.Ok) :
    (clearNoticesWork a s).1.notices.Ok := by
  unfold clearNoticesWork
  split
  · exact Notices.clear_ok hs _ _
  · exact hs

/-- A dispatched request whose work keeps the law of the notice sets. -/
theorem dispatch_noticesOk {α : Type} {kind seq : Byte} {payload : List Byte} {parse : List Byte → Option α}
    {work : α → State → State × Reply} {s : State} (hs : s.notices.Ok)
    (hwork : ∀ a u, u.notices.Ok → (work a u).1.notices.Ok) : (dispatch kind seq payload parse work s).notices.Ok :=
  dispatch_keeps (P := fun s => s.notices.Ok) (fun _ _ h => h) hwork hs

/-- The law where the Notice Unit does not change. -/
theorem State.noticesOk_of_changesOnly {l : List Block} {s t : State} (hs : s.notices.Ok) (h : s.ChangesOnly l t)
    (hl : decide (Block.notices ∉ l) = true) : t.notices.Ok := by
  have e : t.notices = s.notices := h.2 .notices (of_decide_eq_true hl)
  rw [e]
  exact hs

/-- Every command keeps the law of the notice sets. -/
theorem exec_noticesOk {c : Instr} {s t : State} (hs : s.notices.Ok) (h : exec c s = .next t) : t.notices.Ok := by
  cases c with
  | powerOnReset _ | pinReset _ => cases h; exact noticesAtReset_ok
  | softReset _ =>
    cases h
    split
    · exact noticesAtReset_ok
    · exact hs
  | selfCheckEnd _ _ => exact execSelfCheckEnd_noticesOk hs h
  | sampleEvent x =>
    cases h
    split
    · unfold State.sampleEvent
      split
      · exact State.completeFrame_noticesOk (State.takeSample_noticesOk hs x)
      · exact State.takeSample_noticesOk hs x
    · exact hs
  | frameCompletion x =>
    cases h
    split
    · exact State.completeFrame_noticesOk (State.takeSample_noticesOk hs x)
    · exact hs
  | phraseStart =>
    cases h
    split
    · exact State.phraseStartAtHead_noticesOk (by exact hs)
    · exact hs
  | clockGapTimeout =>
    cases h
    split
    · exact hs
    · dsimp only
      split
      · exact Notices.raise_ok hs _
      · exact hs
  | measurementWindowEnd => exact execMeasurementWindowEnd_noticesOk hs h
  | receivedByte _ _ => cases h; exact State.applyByte_noticesOk hs _
  | frameReceived _ =>
    cases h
    split
    · exact State.applyByte_noticesOk hs _
    · exact hs
  | receiveFault _ _ =>
    cases h
    split
    · exact State.applyByte_noticesOk hs _
    · exact hs
  | receiveGapTimeout =>
    cases h
    split
    · exact hs
    · exact State.applyByte_noticesOk hs _
  | note _ _ => cases h; exact dispatch_noticesOk hs fun a _ hu => noteWork_noticesOk a hu
  | notesClear _ _ =>
    cases h
    exact dispatch_noticesOk (work := notesClearWork) hs fun _ _ hu => State.applyKey_noticesOk hu _
  | loadScene _ _ => cases h; exact dispatch_noticesOk hs fun a _ hu => loadSceneWork_noticesOk a hu
  | loadInlineScene _ _ => cases h; exact dispatch_noticesOk hs fun a _ hu => loadInlineWork_noticesOk a hu
  | enqueueCue _ _ => cases h; exact dispatch_noticesOk hs fun a _ hu => enqueueWork_noticesOk a hu
  | fire _ _ => cases h; exact dispatch_noticesOk hs fun a _ hu => fireWork_noticesOk a hu
  | cancelCue _ _ => cases h; exact dispatch_noticesOk hs fun a _ hu => cancelWork_noticesOk a hu
  | clearCues _ _ =>
    cases h
    exact dispatch_noticesOk (work := clearCuesWork) hs fun _ _ hu => State.removeAll_noticesOk hu _
  | beat _ _ => cases h; exact dispatch_noticesOk hs fun a _ hu => beatWork_noticesOk a hu
  | storeStatus _ _ => cases h; exact dispatch_noticesOk hs fun _ _ hu => State.passToStatus_noticesOk hu _
  | programmingVoltageReady _ => exact execProgrammingVoltageReady_noticesOk hs h
  | storePulseVerify _ => exact execStorePulseVerify_noticesOk hs h
  | erasePulseVerify _ => exact execErasePulseVerify_noticesOk hs h
  | timerExpiry => exact execTimerExpiry_noticesOk hs h
  | supplyLoss _ => exact execSupplyLoss_noticesOk hs h
  | clearNotices _ _ => cases h; exact dispatch_noticesOk hs fun a _ hu => clearNoticesWork_noticesOk a hu
  | configureNotices _ _ =>
    cases h
    exact dispatch_noticesOk (work := configureWork) hs fun p _ hu => Notices.configure_ok hu p
  | _ => exact State.noticesOk_of_changesOnly hs (exec_changesOnly h) rfl

/-- A step idles, or runs a command on the state with the rest of the queue. -/
theorem step_cases {s t : State} (h : step s = .next t) :
    t = s ∨ ∃ c rest, exec c { s with pending := rest } = .next t := by
  unfold step at h
  split at h
  · cases h
    exact .inl rfl
  · exact .inr ⟨_, _, h⟩

/-- Settles O60: every command keeps each of the four laws. -/
theorem clockFollowAndNoticeLawsKept : Obligations.ClockFollowAndNoticeLawsKept := by
  unfold Obligations.ClockFollowAndNoticeLawsKept
  refine ⟨fun s t hs h => ?_, fun s t hs h => ?_, fun s t hq hs h => ?_, fun s t hs h => ?_⟩
  · exact step_keeps (P := State.ClockOk) (fun _ _ h => h) (fun _ _ _ => exec_clockOk) hs h
  · exact step_keeps (P := State.FollowOk) (fun _ _ h => h) (fun _ _ _ => exec_followOk) hs h
  · rcases step_cases h with rfl | ⟨c, rest, hc⟩
    · exact hs
    · exact exec_originOk (s := { s with pending := rest }) hq hs hc
  · exact step_keeps (P := fun s => s.notices.Ok) (fun _ _ h => h) (fun _ _ _ => exec_noticesOk) hs h

end Sys2Proof.Machine
end

section
/-! Proofs: heads, splices and crossfades (R80 to R88). -/

namespace Sys2Proof.Machine

/-! ### A head's advance (R80, R81) -/

/-- A head moves by the ratio, in units of 1/8192 of a sample, modulo the ring. -/
theorem Head.advance_position (h : Head) (ratio : Nat) :
    (h.whole * 8192 + h.frac + ratio) % (4096 * 8192) = (h.advance ratio).whole * 8192 + (h.advance ratio).frac := by
  simp only [Head.advance]
  omega

/-! ### The splice period (R83) -/

/-- The period is the last accepted one, rounded to whole samples. -/
theorem splicePeriod_rounds (t16 : Nat) :
    16 * splicePeriod (some t16) ≤ t16 + 8 ∧ t16 + 8 < 16 * splicePeriod (some t16) + 16 := by
  simp only [splicePeriod]
  omega

/-! ### Splices (R84, R85) -/

/-- Past a guard a head jumps by whole periods. -/
theorem spliceJump_past {tp : Nat} {lag : Int} (h : lag < 96 ∨ 1536 < lag) :
    spliceJump tp lag = some (-((lag - 480) / tp) * tp) := by
  unfold spliceJump
  split
  · rfl
  · rw [if_pos (by omega)]

theorem spliceJump_within {tp : Nat} {lag : Int} (h1 : 96 ≤ lag) (h2 : lag ≤ 1536) : spliceJump tp lag = none := by
  rw [spliceJump, if_neg (by omega), if_neg (by omega)]

/-! ### The fading head (R87, R88) -/

/-- A fading head whose lag has left 1..4095 is dropped. -/
theorem dropFade_some (f : Crossfade) :
    dropFade (some f) =
      if f.fading.lag < 1 ∨ 4095 < f.fading.lag then (none, true) else (some f, false) := rfl

/-- A crossfade there is, whether its fading head is dropped or goes on, is cut by a splice. -/
theorem dropFade_cut (fade : Option Crossfade) : ((dropFade fade).2 || (dropFade fade).1.isSome) = fade.isSome := by
  cases fade with
  | none => rfl
  | some f =>
    rw [dropFade_some]
    split <;> rfl

/-! ### A channel's heads at a sample event (R79) -/

section
variable {ratio tp : Nat} {h : Head}

/-- Past a guard the active head splices, and a crossfade starts from its old place. -/
theorem moveHeads_splice (hlag : (h.advance ratio).lag < 96 ∨ 1536 < (h.advance ratio).lag) (x : Nat)
    (fade : Option Crossfade) :
    moveHeads ratio tp x h fade =
      ⟨(h.advance ratio).jump (-(((h.advance ratio).lag - 480) / tp) * tp), some ⟨h.advance ratio, 0, x⟩, fade.isSome⟩ := by
  rw [moveHeads, spliceJump_past hlag]
  dsimp only
  rw [dropFade_cut, Option.isSome_map]

/-- Within the guards the active head stays where its advance brought it. -/
theorem moveHeads_stay (h1 : 96 ≤ (h.advance ratio).lag) (h2 : (h.advance ratio).lag ≤ 1536) (x : Nat)
    (fade : Option Crossfade) :
    moveHeads ratio tp x h fade =
      let d := dropFade (fade.map fun f => { f with fading := f.fading.advance ratio })
      ⟨h.advance ratio, d.1.bind Crossfade.next, d.2⟩ := by
  rw [moveHeads, spliceJump_within h1 h2]

/-- A splice lands by whole periods at a lag from 480 to less than a period further, its fraction kept (R84, R85, R86). -/
theorem moveHeads_splice_lands {w : Nat} (hh : h.Ok w) (htp : 0 < tp)
    (hlag : (h.advance ratio).lag < 96 ∨ 1536 < (h.advance ratio).lag) (x : Nat) (fade : Option Crossfade) :
    let a := h.advance ratio
    let r := moveHeads ratio tp x h fade
    (480 ≤ r.active.lag ∧ r.active.lag < 480 + tp) ∧ (r.active.lag - a.lag) % tp = 0 ∧ r.active.frac = a.frac ∧
      r.active.Ok ((w + 1) % 4096) ∧ r.fade = some ⟨a, 0, x⟩ ∧ r.cut = fade.isSome := by
  dsimp only
  rw [moveHeads_splice hlag]
  refine ⟨spliceJump_lands htp (spliceJump_past hlag), ?_, rfl, Head.jump_ok (Head.advance_ok hh ratio) _, rfl, rfl⟩
  simp only [Head.jump, add_sub_cancel_left]
  exact Int.mul_emod_left _ _

/-- Within the guards a crossfade advances with its fading head, ends at its length, or is cut with its fading head dropped
(R87, R88). -/
theorem moveHeads_stay_fade (h1 : 96 ≤ (h.advance ratio).lag) (h2 : (h.advance ratio).lag ≤ 1536) (x : Nat) (f : Crossfade) :
    let g := f.fading.advance ratio
    let r := moveHeads ratio tp x h (some f)
    r.cut = decide (g.lag < 1 ∨ 4095 < g.lag) ∧
      r.fade = if g.lag < 1 ∨ 4095 < g.lag ∨ f.length ≤ f.progress + 1 then none
        else some { fading := g, progress := f.progress + 1, length := f.length } := by
  dsimp only
  rw [moveHeads_stay h1 h2, Option.map_some, dropFade_some]
  by_cases hdrop : (f.fading.advance ratio).lag < 1 ∨ 4095 < (f.fading.advance ratio).lag
  · simp only [hdrop, ← or_assoc, true_or, if_true, decide_true, Option.bind_none, and_self]
  · simp only [hdrop, ← or_assoc, false_or, if_false, decide_false, Option.bind_some, Crossfade.next, and_self]

end

/-- Settles O22: the advance, the splice period, and a head's move past a guard and within the guards. -/
theorem headsAdvanceAndSplice : Obligations.HeadsAdvanceAndSplice := by
  unfold Obligations.HeadsAdvanceAndSplice
  refine ⟨fun w ratio h hh hr1 hr2 => ?_, rfl, fun t16 ht => ?_,
    fun w ratio tp x h fade hh htp _ => ⟨fun hlag => ?_, fun h1 h2 => ?_⟩⟩
  · exact ⟨Head.advance_ok hh ratio, h.advance_position ratio, Head.advance_lag hh.2.1 hr1 hr2⟩
  · exact ⟨splicePeriod_rounds t16, splicePeriod_mem (by rintro _ ⟨⟩; exact ht)⟩
  · exact moveHeads_splice_lands hh (by omega) (by omega) x fade
  · refine ⟨by rw [moveHeads_stay h1 h2], ?_, ?_⟩
    · rintro rfl
      rw [moveHeads_stay h1 h2]
      exact ⟨rfl, rfl⟩
    · rintro f rfl
      exact moveHeads_stay_fade h1 h2 x f

end Sys2Proof.Machine
end

section
/-! Proofs: envelope commands and levels, and a channel's work at a sample event (R79, R92 to R95). -/

namespace Sys2Proof.Machine

/-! ### The envelope's commands (R92, R93) -/

theorem Channel.act_keep {c : Channel} (h : c.command = .keep) (w : Nat) : c.act w = c := by
  cases he : c.env <;> simp only [Channel.act, he, h]

/-- OPEN opens a CLOSED channel with its head placed. -/
theorem Channel.act_open_closed {c : Channel} (h : c.command = .open) (he : c.env = .closed) (w : Nat) :
    c.act w = { c with env := .opening, active := some (placedHead w), fade := none } := by
  simp only [Channel.act, he, h]

/-- OPEN turns a CLOSING channel round, its heads and its level kept. -/
theorem Channel.act_open_closing {c : Channel} (h : c.command = .open) (he : c.env = .closing) (w : Nat) :
    c.act w = { c with env := .opening } := by
  simp only [Channel.act, he, h]

theorem Channel.act_open_rising {c : Channel} (h : c.command = .open) (he : c.env = .opening ∨ c.env = .open) (w : Nat) :
    c.act w = c := by
  rcases he with he | he <;> simp only [Channel.act, he, h]

theorem Channel.act_close_rising {c : Channel} (h : c.command = .close) (he : c.env = .opening ∨ c.env = .open) (w : Nat) :
    c.act w = { c with env := .closing } := by
  rcases he with he | he <;> simp only [Channel.act, he, h]

theorem Channel.act_close_falling {c : Channel} (h : c.command = .close) (he : c.env = .closed ∨ c.env = .closing) (w : Nat) :
    c.act w = c := by
  rcases he with he | he <;> simp only [Channel.act, he, h]

/-- Acting on a command leaves level, ratio and command. -/
theorem Channel.act_kept (c : Channel) (w : Nat) :
    (c.act w).level = c.level ∧ (c.act w).ratio = c.ratio ∧ (c.act w).command = c.command := by
  unfold Channel.act
  split <;> exact ⟨rfl, rfl, rfl⟩

/-! ### The level's steps (R94, R95) -/

section
variable {c : Channel} (attack release : Nat)

theorem Channel.stepLevel_opening (h : c.env = .opening) :
    c.stepLevel attack release =
      let up := c.level + 1 / (256 * (attack : Rat))
      if 1 ≤ up then { c with env := .open, level := 1 } else { c with level := up } := by
  simp only [Channel.stepLevel, h]

theorem Channel.stepLevel_closing (h : c.env = .closing) :
    c.stepLevel attack release =
      let down := c.level - 1 / (256 * (release : Rat))
      if down ≤ 0 then { c with env := .closed, level := 0, active := none, fade := none } else { c with level := down } := by
  simp only [Channel.stepLevel, h]

theorem Channel.stepLevel_still (h : c.env = .open ∨ c.env = .closed) : c.stepLevel attack release = c := by
  rcases h with h | h <;> simp only [Channel.stepLevel, h]

end

/-! ### A channel's work at a sample event (R79) -/

section
variable (c : Channel) (first : Bool) (ring : List (Nat × Sample)) (w tp xfade attack release : Nat)

/-- The channel once it has acted on its command, at the first sample event after a frame completion. -/
abbrev Channel.acted : Channel := if first then c.act w else c

variable {c first w}

theorem Channel.sample_closed (h : (c.acted first w).env = .closed) :
    c.sample first ring w tp xfade attack release = ⟨c.acted first w, false, 0⟩ := by
  rw [Channel.sample]
  exact if_pos h

theorem Channel.sample_runs (h : (c.acted first w).env ≠ .closed) :
    c.sample first ring w tp xfade attack release =
      (c.acted first w).run (c.env = .closed) ring tp xfade attack release := by
  rw [Channel.sample]
  exact if_neg h

/-- The signal of a channel that runs is formed last, from what the event leaves. -/
theorem Channel.run_signal {c : Channel} {a : Head} (ha : c.active = some a) (placed : Bool) :
    (c.run placed ring tp xfade attack release).signal = (c.run placed ring tp xfade attack release).channel.signal ring := by
  simp only [Channel.run, ha]

/-- A crossfade is cut where the heads' move cuts one; a head placed at this event does not move. -/
theorem Channel.run_cut {c : Channel} {a : Head} (ha : c.active = some a) (placed : Bool) :
    (c.run placed ring tp xfade attack release).cut = if placed then false else (moveHeads c.ratio tp xfade a c.fade).cut := by
  cases placed <;> simp only [Channel.run, ha] <;> rfl

end

/-- Settles O23: commands, level steps, and the order of a channel's work. -/
theorem envelopeSteps : Obligations.EnvelopeSteps := by
  unfold Obligations.EnvelopeSteps
  refine ⟨fun c w => ⟨fun h => ?_, fun h => ⟨fun he => ?_, fun he => ?_, fun he => ?_⟩, fun h => ⟨fun he => ?_, fun he => ?_⟩,
      c.act_kept w⟩,
    fun c attack release => ?_,
    fun c first ring w tp xfade attack release => ⟨fun hclosed => ?_, fun a hne ha => ?_⟩⟩
  · exact Channel.act_keep h w
  · rw [Channel.act_open_closed h he]
    exact ⟨rfl, rfl, rfl⟩
  · exact Channel.act_open_closing h he w
  · exact Channel.act_open_rising h he w
  · exact Channel.act_close_rising h he w
  · exact Channel.act_close_falling h he w
  · exact ⟨Channel.stepLevel_opening attack release, Channel.stepLevel_closing attack release,
      Channel.stepLevel_still attack release⟩
  · exact Channel.sample_closed ring tp xfade attack release hclosed
  · rw [Channel.sample_runs ring tp xfade attack release hne]
    refine ⟨Channel.run_signal ring tp xfade attack release ha _, fun he => ?_, fun he => ?_⟩
    · rw [decide_eq_true he]
      exact ⟨Channel.run_placed ring tp xfade attack release ha, Channel.run_cut ring tp xfade attack release ha true⟩
    · rw [decide_eq_false he]
      exact ⟨Channel.run_moved ring tp xfade attack release ha, Channel.run_cut ring tp xfade attack release ha false⟩

end Sys2Proof.Machine
end

section
/-! Proofs: the voice signal (R82, R87, R96). -/

namespace Sys2Proof.Machine

/-! ### Rounding (0.5) -/

/-- A fraction is rounded to the nearest whole number, halves away from zero. -/
theorem roundRat_eq (y : Rat) : roundRat y = if 0 ≤ y then ⌊y + 1 / 2⌋ else ⌈y - 1 / 2⌉ := by
  have half (n : Int) : ⌊(n / y.den + 1 / 2 : Rat)⌋ = (2 * n + y.den) / (2 * y.den) := by
    have hden : (y.den : Rat) ≠ 0 := by exact_mod_cast y.den_ne_zero
    have e : (n / y.den + 1 / 2 : Rat) = ((2 * n + y.den : Int) : Rat) / ((2 * y.den : Nat) : Rat) := by
      push_cast
      field_simp
    rw [e, Rat.floor_intCast_div_natCast]
    push_cast
    rfl
  have hy : (y.num / y.den : Rat) = y := y.num_div_den
  rw [roundRat, roundDiv]
  by_cases h : 0 ≤ y
  · rw [if_pos h, if_pos (Rat.num_nonneg.mpr h), ← half, hy]
  · have e : y - 1 / 2 = -(((-y.num : Int) : Rat) / y.den + 1 / 2) := by
      rw [Int.cast_neg, neg_div, hy]
      ring
    rw [if_neg h, if_neg (mt Rat.num_nonneg.mp h), ← half, e, Int.ceil_neg]

/-- Rounding stays between whole bounds. -/
theorem roundRat_mem {lo hi : Int} {y : Rat} (h1 : lo ≤ y) (h2 : y ≤ hi) : lo ≤ roundRat y ∧ roundRat y ≤ hi := by
  rw [roundRat_eq]
  split
  · exact ⟨Int.le_floor.mpr (by linarith), Int.lt_add_one_iff.mp (Int.floor_lt.mpr (by push_cast; linarith))⟩
  · exact ⟨Int.sub_one_lt_iff.mp (Int.lt_ceil.mpr (by push_cast; linarith)), Int.ceil_le.mpr (by linarith)⟩

/-! ### The voice signal (R82, R87, R96) -/

/-- A rational number lies within 24-bit full scale. -/
abbrev InFullScale (x : Rat) : Prop := -8388608 ≤ x ∧ x ≤ 8388607

theorem sample_inFullScale (x : Sample) : InFullScale (x.toInt : Rat) := by
  have h1 := x.le_toInt
  have h2 := x.toInt_lt
  exact ⟨by exact_mod_cast (by omega : (-8388608 : Int) ≤ x.toInt), by exact_mod_cast (by omega : x.toInt ≤ 8388607)⟩

/-- A weighted mean of two values in full scale lies in full scale. -/
theorem InFullScale.mean {x y t : Rat} (hx : InFullScale x) (hy : InFullScale y) (h0 : 0 ≤ t) (h1 : t ≤ 1) :
    InFullScale (x * (1 - t) + y * t) := by
  obtain ⟨hx1, hx2⟩ := hx
  obtain ⟨hy1, hy2⟩ := hy
  constructor <;> nlinarith

/-- An interpolated head sample lies between the two samples it reads (R82). -/
theorem headSample_inFullScale (ring : List (Nat × Sample)) {h : Head} (hf : h.frac < 8192) :
    InFullScale (headSample ring h) := by
  have hfrac : ((h.frac : Nat) : Rat) ≤ 8192 := by exact_mod_cast hf.le
  have h0 : (0 : Rat) ≤ (h.frac : Rat) / 8192 := by positivity
  have h1 : (h.frac : Rat) / 8192 ≤ 1 := by linarith
  have hmean := (sample_inFullScale (ringRead ring h.whole)).mean
    (sample_inFullScale (ringRead ring ((h.whole + 1) % 4096))) h0 h1
  have e : headSample ring h =
      (ringRead ring h.whole).toInt * (1 - (h.frac : Rat) / 8192) +
        (ringRead ring ((h.whole + 1) % 4096)).toInt * ((h.frac : Rat) / 8192) := by
    simp only [headSample]
    ring
  rw [e]
  exact hmean

/-- What a channel reads before its level weighs it: the active head's sample, or in a crossfade the weighted pair (R87). -/
def fadedSample (ring : List (Nat × Sample)) (a : Head) : Option Crossfade → Rat
  | none => headSample ring a
  | some f =>
    headSample ring f.fading * (((f.length : Rat) - f.progress) / f.length) + headSample ring a * ((f.progress : Rat) / f.length)

theorem fadedSample_inFullScale (ring : List (Nat × Sample)) {w : Nat} {a : Head} {fade : Option Crossfade} (ha : a.Ok w)
    (hf : ∀ f ∈ fade, f.Ok w) : InFullScale (fadedSample ring a fade) := by
  cases fade with
  | none => exact headSample_inFullScale ring ha.2.1
  | some f =>
    obtain ⟨hfading, -, hlen, hprog⟩ := hf f rfl
    have hpos : (0 : Rat) < f.length := by exact_mod_cast (by omega : 0 < f.length)
    have e : ((f.length : Rat) - f.progress) / f.length = 1 - f.progress / f.length := by field_simp
    rw [fadedSample, e]
    refine (headSample_inFullScale ring hfading.2.1).mean (headSample_inFullScale ring ha.2.1) (by positivity) ?_
    rw [div_le_one hpos]
    exact_mod_cast hprog.le

theorem Channel.signal_closed {c : Channel} (h : c.env = .closed) (ring : List (Nat × Sample)) : c.signal ring = 0 := by
  simp only [Channel.signal, h]

/-- A channel that speaks sends what its heads read, times its level, rounded once (R96). -/
theorem Channel.signal_eq {c : Channel} {a : Head} (he : c.env ≠ .closed) (ha : c.active = some a)
    (ring : List (Nat × Sample)) : c.signal ring = roundRat (fadedSample ring a c.fade * c.level) := by
  cases henv : c.env with
  | closed => exact absurd henv he
  | _ => cases hf : c.fade <;> simp only [Channel.signal, henv, ha, hf, fadedSample]

/-- The signal of a channel under its law lies within 24 bits. -/
theorem Channel.signal_mem {w : Nat} {c : Channel} (hc : c.Ok w = true) (ring : List (Nat × Sample)) :
    -8388608 ≤ c.signal ring ∧ c.signal ring ≤ 8388607 := by
  obtain ⟨hactive, -, hhead, hfade, ⟨hl0, hl1⟩, -⟩ := Channel.ok_iff.mp hc
  by_cases he : c.env = .closed
  · rw [Channel.signal_closed he]
    decide
  · obtain ⟨a, ha⟩ : ∃ a, c.active = some a := Option.ne_none_iff_exists'.mp fun hn => he (hactive.mp hn)
    obtain ⟨hlo, hhi⟩ := fadedSample_inFullScale ring (hhead a ha).1 hfade
    rw [Channel.signal_eq he ha]
    exact roundRat_mem (by push_cast; nlinarith) (by push_cast; nlinarith)

/-- Settles O24: the rounding, the bound, and the signal outside a crossfade and within one. -/
theorem voiceSignals : Obligations.VoiceSignals := by
  unfold Obligations.VoiceSignals
  refine ⟨roundRat_eq, fun w c ring hc => ⟨Channel.signal_mem hc ring, fun he => Channel.signal_closed he ring, ?_⟩⟩
  have speaks {a : Head} (ha : c.active = some a) : c.env ≠ .closed := fun he => by
    rw [(Channel.ok_iff.mp hc).1.mpr he] at ha
    cases ha
  refine ⟨fun a ha hf => ?_, fun a f ha hf => ?_⟩
  · rw [Channel.signal_eq (speaks ha) ha, hf]
    rfl
  · rw [Channel.signal_eq (speaks ha) ha, hf]
    rfl

end Sys2Proof.Machine
end

section
/-! Proofs: the bytes of GET STATUS, MONITOR and READ NOTICES, and the top group (R106, R166, R176, R177). -/

namespace Sys2Proof.Machine

/-! ### Bytes (R166, 9.7) -/

theorem twoBytes_eq (v : BitVec 16) : twoBytes v = [byteOfNat (v.toNat / 256), byteOfNat (v.toNat % 256)] := by
  rw [← twoBytesNat_bytes, twoBytesNat, BitVec.ofNat_toNat, BitVec.setWidth_eq]

/-- Two marks in one byte are the sum of their bits. -/
theorem markByte_or_shift (a b : Bool) :
    markByte a ||| (markByte b <<< 1) = (if a then 1 else 0) + (if b then 2 else 0) := by
  cases a <;> cases b <;> decide

theorem EngineState.bytes_eq (st : EngineState) :
    st.bytes = [if st = .running then 0 else 1,
      if st = .running then 0xFF else if st = .stalled .clock then 0 else 1] := by
  rcases st with _ | _ | _ <;> rfl

theorem ClockState.byte_eq (c : ClockState) : c.byte = if c = .present then 1 else 0 := by
  cases c <;> rfl

theorem EngineMode.byte_eq (m : EngineMode) : m.byte = if m = .bypass then 1 else 0 := by
  cases m <;> rfl

/-! ### GET STATUS and MONITOR (R43, R72, R100, R106) -/

theorem windowCountBytes_eq {n : Nat} (h : n < 65536) :
    windowCountBytes n = [byteOfNat (n / 256), byteOfNat (n % 256)] := by
  rw [windowCountBytes, if_pos h, twoBytesNat_bytes]

theorem statusReport_eq {s : State} (h : s.port.lastWindowCount < 65536) :
    statusReport () s = .ok [if s.engine.state = .running then 0 else 1,
      if s.engine.state = .running then 0xFF else if s.engine.state = .stalled .clock then 0 else 1,
      if s.port.clock = .present then 1 else 0, byteOfNat (s.port.lastWindowCount / 256),
      byteOfNat (s.port.lastWindowCount % 256), if s.mixer.mode = .bypass then 1 else 0, byteOfNat s.mixer.ramp] := by
  rw [statusReport, EngineState.bytes_eq, ClockState.byte_eq, windowCountBytes_eq h, EngineMode.byte_eq]
  rfl

/-- A voice's seven bytes, each from its field (R72, R100). -/
theorem monitorVoice_eq (c : Channel) (p : PlanVoice) :
    monitorVoice c p =
      [((match c.env with
        | .closed => 0
        | .opening => 1
        | .open => 2
        | .closing => 3) : Byte), match p.planned with
        | some h => BitVec.ofInt 8 h
        | none => 0xFF] ++ twoBytes (BitVec.ofInt 16 p.shift) ++ (match c.active with
          | some h => twoBytes (BitVec.ofInt 16 h.lag)
          | none => [0xFF, 0xFF]) ++ [(if p.outOfReach then 1 else 0) + (if p.doubledOut then 2 else 0)] := by
  rw [monitorVoice, markByte_or_shift]
  cases c.active <;> cases p.planned <;> rfl

/-! ### Attention and the top group (R176, R177) -/

theorem Notices.attention_iff {u : Notices} {g : Fin 6} :
    u.attention g = true ↔ u.pending[g] &&& u.enabledOf g ≠ 0 ∧ (g = 0 ∨ u.mask < u.levelOf g) := by
  rw [Notices.attention, Bool.and_eq_true, Bool.or_eq_true, decide_eq_true_iff, decide_eq_true_iff, decide_eq_true_iff]
  rfl

/-- Group `g` comes before `h` as top group: its level is higher, or the same and its number no greater. -/
def Notices.Outranks (u : Notices) (g h : Fin 6) : Prop :=
  u.levelOf h < u.levelOf g ∨ (u.levelOf h = u.levelOf g ∧ g ≤ h)

theorem Notices.Outranks.refl (u : Notices) (g : Fin 6) : u.Outranks g g := .inr ⟨rfl, le_refl g⟩

theorem Notices.Outranks.trans {u : Notices} {g h k : Fin 6} (h1 : u.Outranks g h) (h2 : u.Outranks h k) :
    u.Outranks g k := by
  unfold Notices.Outranks at *
  omega

/-- Of two candidates in ascending order one is kept, and it outranks both. -/
theorem Notices.higher_outranks (u : Notices) {b g : Fin 6} (hlt : b < g) :
    ∃ w, u.higher (some b) g = some w ∧ (w = b ∨ w = g) ∧ u.Outranks w b ∧ u.Outranks w g := by
  by_cases hl : u.levelOf b < u.levelOf g
  · exact ⟨g, if_pos hl, .inr rfl, .inl hl, .refl u g⟩
  · refine ⟨b, if_neg hl, .inl rfl, .refl u b, ?_⟩
    unfold Notices.Outranks
    omega

/-- Out of groups in ascending order the search keeps one that outranks them all. -/
theorem Notices.foldl_higher_outranks (u : Notices) {l : List (Fin 6)} {b : Fin 6} (hl : (b :: l).Pairwise (· < ·)) :
    ∃ g ∈ b :: l, l.foldl u.higher (some b) = some g ∧ ∀ h ∈ b :: l, u.Outranks g h := by
  induction l generalizing b with
  | nil => exact ⟨b, by simp, rfl, by simp [Notices.Outranks.refl]⟩
  | cons x l ih =>
    obtain ⟨hb, hx⟩ := List.pairwise_cons.mp hl
    obtain ⟨hxl, hrest⟩ := List.pairwise_cons.mp hx
    obtain ⟨w, hw, hmem, hwb, hwx⟩ := u.higher_outranks (hb x List.mem_cons_self)
    have hwl : (w :: l).Pairwise (· < ·) := by
      refine List.pairwise_cons.mpr ⟨fun y hy => ?_, hrest⟩
      rcases hmem with rfl | rfl
      · exact hb y (List.mem_cons_of_mem x hy)
      · exact hxl y hy
    obtain ⟨g, hg, hfold, hall⟩ := ih hwl
    have hgw := hall w List.mem_cons_self
    refine ⟨g, ?_, by rw [List.foldl_cons, hw, hfold], ?_⟩
    · simp only [List.mem_cons] at hg ⊢
      rcases hmem with rfl | rfl <;> tauto
    · simp only [List.forall_mem_cons] at hall ⊢
      exact ⟨hgw.trans hwb, hgw.trans hwx, hall.2⟩

theorem noticeGroups_eq_finRange : noticeGroups = List.finRange 6 := by decide

theorem mem_noticeGroups (g : Fin 6) : g ∈ noticeGroups := by
  rw [noticeGroups_eq_finRange]
  exact List.mem_finRange g

theorem noticeGroups_pairwise : noticeGroups.Pairwise (· < ·) := by decide

theorem Notices.topGroup_of_quiet {u : Notices} (h : u.attnLow = false) : u.topGroup = none := by
  have hnone : noticeGroups.filter u.attention = [] := List.filter_eq_nil_iff.mpr (List.any_eq_false.mp h)
  rw [Notices.topGroup, hnone]
  rfl

/-- With attention the top group is in attention and outranks every group that is (R177). -/
theorem Notices.topGroup_of_attn {u : Notices} (h : u.attnLow = true) :
    ∃ g, u.topGroup = some g ∧ u.attention g = true ∧ ∀ k, u.attention k = true → u.Outranks g k := by
  have hmem (g : Fin 6) : g ∈ noticeGroups.filter u.attention ↔ u.attention g = true := by
    simp [List.mem_filter, mem_noticeGroups]
  have hpair := noticeGroups_pairwise.filter u.attention
  rw [Notices.topGroup]
  cases hl : noticeGroups.filter u.attention with
  | nil =>
    obtain ⟨g, -, hg⟩ := List.any_eq_true.mp h
    rw [← hmem, hl] at hg
    cases hg
  | cons b l =>
    rw [hl] at hpair
    obtain ⟨g, hg, hfold, hall⟩ := u.foldl_higher_outranks hpair
    simp only [hl] at hmem
    exact ⟨g, hfold, (hmem g).mp hg, fun k hk => hall k ((hmem k).mpr hk)⟩

/-- Settles O34: each report's bytes, and the top group as the one that outranks every group in attention. -/
theorem statusMonitorAndNoticeReports : Obligations.StatusMonitorAndNoticeReports := by
  unfold Obligations.StatusMonitorAndNoticeReports
  refine ⟨⟨fun _ => rfl, twoBytes_eq⟩, fun u g => Notices.attention_iff, fun seq rest s => ?_⟩
  refine ⟨s.key.view s.working.scene, s.key.view_publishes _, fun h hw => ?_, fun h => ?_, fun h => ?_⟩
  · exact (exec_reports rfl rfl (statusReport_eq hw) rfl h).2
  · refine (exec_reports rfl rfl ?_ rfl h).2
    simp only [monitorReport, monitorVoice_eq]
    cases s.tracker.record.held <;> rfl
  · refine ⟨(s.notices.topGroup.map fun g => byteOfNat g.val).getD absentByte,
      (exec_reports rfl rfl ?_ rfl h).2, fun hq => ?_, fun ha => ?_⟩
    · rw [← noticeGroups_eq_finRange]
      rfl
    · rw [Notices.topGroup_of_quiet hq]
      rfl
    · obtain ⟨g, htop, hg, hall⟩ := Notices.topGroup_of_attn ha
      exact ⟨g, by rw [htop]; rfl, hg, hall⟩

end Sys2Proof.Machine
end

section
/-! Proofs: the bypass ramp, the four output samples and the clip mark (R110, R111, R113). -/

namespace Sys2Proof.Machine

/-! ### Rounding a quotient (0.5) -/

/-- A common factor of numerator and denominator does not change the rounded quotient. -/
theorem roundDiv_mul_left {c : Nat} (hc : 0 < c) (n : Int) (d : Nat) : roundDiv (c * n) (c * d) = roundDiv n d := by
  have hc' : (0 : Int) < c := by exact_mod_cast hc
  have scaled (x : Int) : (2 * (c * x) + (c * d : Nat)) / (2 * (c * d : Nat)) = (2 * x + d) / (2 * d) := by
    rw [← Int.mul_ediv_mul_of_pos (2 * x + d) (2 * d) hc']
    push_cast
    ring_nf
  have hsign : 0 ≤ c * n ↔ 0 ≤ n := mul_nonneg_iff_of_pos_left hc'
  simp only [roundDiv, hsign, ← mul_neg, scaled]

/-- The rounded quotient of two whole numbers is the rounding of the fraction they make. -/
theorem roundDiv_eq_roundRat (n : Int) {d : Nat} (hd : 0 < d) : roundDiv n d = roundRat (n / d) := by
  obtain ⟨c, hn, hdc⟩ := Rat.exists_eq_mul_div_num_and_eq_mul_div_den n (by exact_mod_cast hd.ne' : (d : Int) ≠ 0)
  rw [Int.cast_natCast] at hn hdc
  have hc : 0 < c := pos_of_mul_pos_left (hdc ▸ Int.natCast_pos.mpr hd) (Int.natCast_nonneg _)
  lift c to Nat using hc.le
  have hdc' : d = c * (n / d : Rat).den := by exact_mod_cast hdc
  have hscaled := roundDiv_mul_left (Int.natCast_pos.mp hc) (n / d : Rat).num (n / d : Rat).den
  rw [← hn, ← hdc'] at hscaled
  exact hscaled

/-! ### The mixer at a sample event (R110, R111, R113) -/

theorem rampStep_eq {b : Nat} (h : b ≤ 64) (mode : EngineMode) :
    rampStep mode b = if mode = .bypass then b - 1 else min 64 (b + 1) := by
  cases mode with
  | bypass =>
    simp only [rampStep, if_true]
    split <;> omega
  | run =>
    simp only [rampStep, reduceCtorEq, if_false]
    split <;> omega

/-- The four voices' terms weighed by the ramp position (R110). -/
def rampedVoices (b : Nat) (v : Four Int) (cs : Four Coeffs) (pan : Coeffs → Nat) : Rat :=
  (b / 64 : Rat) * ((v.v0 * cs.v0.gain * pan cs.v0 : Rat) + (v.v1 * cs.v1.gain * pan cs.v1 : Rat) +
    (v.v2 * cs.v2.gain * pan cs.v2 : Rat) + (v.v3 * cs.v3.gain * pan cs.v3 : Rat))

theorem rampedVoices_eq (b : Nat) (v : Four Int) (cs : Four Coeffs) (pan : Coeffs → Nat) :
    rampedVoices b v cs pan = (b * voiceSum v cs pan : Int) / 64 := by
  simp only [rampedVoices, voiceSum, pathTerm]
  push_cast
  ring

theorem harmSum_eq (m : Mixer) (b : Nat) (v : Four Int) (pan : Coeffs → Nat) :
    harmSum m b v pan = roundRat (rampedVoices b v m.voices pan / 2 ^ 28) := by
  rw [harmSum, roundDiv_eq_roundRat _ (by norm_num), rampedVoices_eq]
  push_cast
  ring_nf

theorem mainSum_eq (m : Mixer) (b : Nat) (x : Int) (v : Four Int) (pan : Coeffs → Nat) :
    mainSum m b x v pan = roundRat (((x * m.dry.gain * pan m.dry : Rat) + rampedVoices b v m.voices pan) / 2 ^ 28) := by
  rw [mainSum, roundDiv_eq_roundRat _ (by norm_num), rampedVoices_eq, pathTerm]
  push_cast
  ring_nf

theorem saturate_eq (y : Int) : saturate y = max (-8388608) (min 8388607 y) := clampInt_eq_max (by decide) y

/-- A saturated sum is the value of its 24-bit sample (R111). -/
theorem toInt_saturate (y : Int) : (BitVec.ofInt 24 (saturate y)).toInt = max (-8388608) (min 8388607 y) := by
  rw [saturate_eq]
  exact BitVec.toInt_ofInt_eq_self (by decide) (by omega) (by omega)

theorem saturates_eq (y : Int) : saturates y = (decide (y < -8388608) || decide (8388607 < y)) := by
  rw [saturates, saturate_eq, ← Bool.decide_or, decide_eq_decide]
  omega

/-- Some of the four sums is saturated exactly where one of them lies outside 24-bit full scale (R111). -/
theorem saturates_any (y1 y2 y3 y4 : Int) :
    (saturates y1 || saturates y2 || saturates y3 || saturates y4) =
      [y1, y2, y3, y4].any fun y => y < -8388608 || 8388607 < y := by
  simp only [saturates_eq, List.any_cons, List.any_nil, Bool.or_false, Bool.or_assoc]

/-- Settles O25: the ramp's step, each sum as the rounded fraction, saturated, and the clip mark. -/
theorem mixedSamples : Obligations.MixedSamples := by
  unfold Obligations.MixedSamples
  intro m x v
  refine ⟨fun h => rampStep_eq h m.mode, ?_, ?_, ?_⟩
  · simp only [Mixer.sample, toInt_saturate, mainSum_eq, harmSum_eq]
    exact ⟨rfl, rfl, rfl, rfl⟩
  all_goals
    simp only [Mixer.sample, saturates_any, mainSum_eq, harmSum_eq]
    rfl

end Sys2Proof.Machine
end

section
/-! Proofs: frame clock edges and gaps (R97, R99, R103 to R105). -/

namespace Sys2Proof.Machine

/-- Settles O26: the edge, and the gap by the clock's state. -/
theorem clockEdgesAndGaps : Obligations.ClockEdgesAndGaps := by
  unfold Obligations.ClockEdgesAndGaps
  intro s hs
  simp only [exec, execFrameClockEdge, execClockGapTimeout, hs, if_false]
  refine ⟨rfl, fun hc => ?_, fun hc => ?_⟩
  · rw [if_pos hc, ← stallByClock_eq]
    rfl
  · rw [if_neg (by rw [hc]; decide)]
    rfl

end Sys2Proof.Machine
end

section
/-! Proofs: every step keeps the scene records in range (R115 to R117, R119). -/

namespace Sys2Proof.Machine

/-- Settles O58: every command keeps the records in range, with whatever queue of commands. -/
theorem sceneRecordsStayChecked : Obligations.SceneRecordsStayChecked := by
  unfold Obligations.SceneRecordsStayChecked
  exact fun s t hs h => step_keeps (P := State.ScenesOk) (fun _ _ h => h) (fun _ _ _ => exec_scenesOk) hs h

end Sys2Proof.Machine
end

section
/-! Proofs: the layout of a scene record, and the record that its own bytes give back (R115 to R117, 9.7). -/

namespace Sys2Proof.Machine

/-! ### The layout (9.7) -/

theorem KeySource.byte_eq (k : KeySource) : k.byte = if k = .chord then 1 else 0 := by
  cases k <;> rfl

theorem UnvoicedPolicy.byte_eq (u : UnvoicedPolicy) : u.byte = if u = .hold then 1 else 0 := by
  cases u <;> rfl

/-- The flags byte is the number its two bits make. -/
theorem Scene.flags_eq (sc : Scene) :
    sc.flags = BitVec.ofNat 8 ((if sc.collisionAvoid then 1 else 0) + (if sc.onsetMode = .atOnset then 2 else 0)) := by
  rw [Scene.flags, markByte_or_shift]
  cases sc.collisionAvoid <;> cases sc.onsetMode <;> rfl

theorem clampMark_iff {p : List Byte} {sc : Scene} : clampMark p sc = true ↔ sc.bytes ≠ p := decide_eq_true_iff

/-! ### Values that their bytes give back -/

theorem byteOfNat_toNat {n : Nat} (h : n < 256) : (byteOfNat n).toNat = n := Nat.mod_eq_of_lt h

theorem byteOfInt_toInt {x : Int} (hlo : -128 ≤ x) (hhi : x ≤ 127) : (byteOfInt x).toInt = x :=
  BitVec.toInt_ofInt_eq_self (by decide) (by omega) (by omega)

@[simp] theorem KeySource.ofByte_byte (k : KeySource) : KeySource.ofByte k.byte = some k := by
  cases k <;> rfl

@[simp] theorem VoiceMode.ofByte_byte (m : VoiceMode) : VoiceMode.ofByte m.byte = some m := by
  cases m <;> rfl

@[simp] theorem UnvoicedPolicy.ofByte_byte (u : UnvoicedPolicy) : UnvoicedPolicy.ofByte u.byte = some u := by
  cases u <;> rfl

theorem nameByte_eq {b : Byte} (h : 0x20 ≤ b.toNat ∧ b.toNat ≤ 0x7E) : nameByte b = b := if_pos h

/-- The range of every mode's amount lies within a signed byte (R116). -/
theorem amountRange_byte (m : VoiceMode) : -128 ≤ (amountRange m).1 ∧ (amountRange m).2 ≤ 127 := by
  cases m <;> decide

/-- A range of an octave or more within 24..108 needs no repair (R57). -/
theorem repairRange_self {low high : Nat} (hl : 24 ≤ low) (h12 : low + 12 ≤ high) (hh : high ≤ 108) :
    repairRange low high = (low, high) := by
  obtain ⟨h1, h2⟩ := repairRange_eq low high
  exact Prod.ext (by omega) (by omega)

/-- Past its first part a list holds the bytes of the rest. -/
theorem byteAt_append_right {pre : List Byte} {n : Nat} (h : pre.length = n) (l : List Byte) (k : Nat) :
    byteAt (pre ++ l) (n + k) = byteAt l k := by
  subst h
  rw [byteAt, byteAt, List.getD_append_right _ _ _ _ (Nat.le_add_right ..), Nat.add_sub_cancel_left]

theorem natAt_eq {p : List Byte} {i n : Nat} (hi : byteAt p i = byteOfNat n) (hn : n < 256) : natAt p i = n := by
  rw [natAt, hi, byteOfNat_toNat hn]

theorem intAt_eq {p : List Byte} {i : Nat} {x : Int} (hi : byteAt p i = byteOfInt x) (hlo : -128 ≤ x) (hhi : x ≤ 127) :
    intAt p i = x := by
  rw [intAt, hi, byteOfInt_toInt hlo hhi]

/-- A number of two bytes, from its two bytes (R166). -/
theorem nat16At_of_bytes {p : List Byte} {i n : Nat} (hhi : byteAt p i = byteOfNat (n / 256))
    (hlo : byteAt p (i + 1) = byteOfNat (n % 256)) (hn : n < 65536) : nat16At p i = n := by
  rw [nat16At_eq, hhi, hlo, byteOfNat_toNat (by omega), byteOfNat_toNat (by omega)]
  omega

/-! ### A voice block -/

/-- A voice block in range is read back from its own bytes, wherever they stand (R116, R117). -/
theorem parseVoice_bytes {v : VoiceRule} (hv : v.Ok = true) {pre : List Byte} {n : Nat} (hn : pre.length = n)
    (post : List Byte) : parseVoice (pre ++ (v.bytes ++ post)) n = some v := by
  obtain ⟨⟨ha1, ha2⟩, ⟨hl, h12, hh⟩, ⟨hd1, hd2⟩, ⟨hg1, hg2⟩, hp1, hp2⟩ := VoiceRule.ok_iff.mp hv
  obtain ⟨hm1, hm2⟩ := amountRange_byte v.mode
  have field (k : Nat) : byteAt (pre ++ (v.bytes ++ post)) (n + k) = byteAt (v.bytes ++ post) k :=
    byteAt_append_right hn _ k
  have hmode : byteAt (pre ++ (v.bytes ++ post)) n = v.mode.byte := field 0
  have hpolicy : byteAt (pre ++ (v.bytes ++ post)) (n + 7) = v.policy.byte := field 7
  rw [parseVoice, hmode, hpolicy, VoiceMode.ofByte_byte, UnvoicedPolicy.ofByte_byte]
  dsimp only
  rw [natAt_eq (field 2) (by omega), natAt_eq (field 3) (by omega), repairRange_self hl h12 hh,
    intAt_eq (field 1) (by omega) (by omega), clampAmount, clampInt_eq ha1 ha2,
    intAt_eq (field 4) (by omega) (by omega), clampInt_eq hd1 hd2,
    intAt_eq (field 5) (by omega) (by omega), clampInt_eq hg1 hg2,
    intAt_eq (field 6) (by omega) (by omega), clampInt_eq hp1 hp2]

/-! ### The record -/

/-- The fourteen bytes between a record's name and its voices (9.7). -/
def Scene.commonBytes (sc : Scene) : List Byte :=
  [byteOfNat sc.tonic, byteOfNat sc.scaleIndex, sc.keySource.byte, byteOfNat sc.correction, byteOfNat sc.hysteresis,
    byteOfNat (sc.glide / 256), byteOfNat (sc.glide % 256), byteOfNat (sc.crossfade / 256), byteOfNat (sc.crossfade % 256),
    sc.flags, byteOfInt sc.dryGain, byteOfInt sc.dryPan, byteOfNat sc.attack, byteOfNat sc.release]

/-- A record's bytes are its name, the common fields and the four voices. -/
theorem Scene.bytes_eq_append (sc : Scene) :
    sc.bytes = sc.name ++ (sc.commonBytes ++ (sc.voices.v0.bytes ++ (sc.voices.v1.bytes ++ (sc.voices.v2.bytes ++
      sc.voices.v3.bytes)))) := by
  simp only [Scene.bytes, Scene.commonBytes, twoBytesNat_bytes, List.append_assoc, List.cons_append, List.nil_append]

theorem Scene.commonBytes_length (sc : Scene) : sc.commonBytes.length = 14 := rfl

theorem VoiceRule.bytes_length (v : VoiceRule) : v.bytes.length = 8 := rfl

/-- The voices in range are read back from the record's bytes (R116, R117). -/
theorem parseVoices_bytes {sc : Scene} (hname : sc.name.length = 12) (hv : sc.voices.All fun v => v.Ok = true) :
    parseVoices sc.bytes = some sc.voices := by
  obtain ⟨h0, h1, h2, h3⟩ := hv
  have p0 : parseVoice sc.bytes 26 = some sc.voices.v0 := by
    rw [sc.bytes_eq_append, ← List.append_assoc sc.name]
    exact parseVoice_bytes h0 (by simp [hname, Scene.commonBytes_length]) _
  have p1 : parseVoice sc.bytes 34 = some sc.voices.v1 := by
    rw [sc.bytes_eq_append, ← List.append_assoc sc.name, ← List.append_assoc _ sc.voices.v0.bytes]
    exact parseVoice_bytes h1 (by simp [hname, Scene.commonBytes_length, VoiceRule.bytes_length]) _
  have p2 : parseVoice sc.bytes 42 = some sc.voices.v2 := by
    rw [sc.bytes_eq_append, ← List.append_assoc sc.name, ← List.append_assoc _ sc.voices.v0.bytes,
      ← List.append_assoc _ sc.voices.v1.bytes]
    exact parseVoice_bytes h2 (by simp [hname, Scene.commonBytes_length, VoiceRule.bytes_length]) _
  have p3 : parseVoice sc.bytes 50 = some sc.voices.v3 := by
    rw [sc.bytes_eq_append, ← List.append_assoc sc.name, ← List.append_assoc _ sc.voices.v0.bytes,
      ← List.append_assoc _ sc.voices.v1.bytes, ← List.append_assoc _ sc.voices.v2.bytes,
      ← List.append_nil sc.voices.v3.bytes]
    exact parseVoice_bytes h3 (by simp [hname, Scene.commonBytes_length, VoiceRule.bytes_length]) _
  rw [parseVoices, p0, p1, p2, p3]

theorem Scene.flags_toNat_lt (sc : Scene) : sc.flags.toNat < 4 := by
  rw [Scene.flags]
  cases sc.collisionAvoid <;> cases sc.onsetMode <;> decide

theorem Scene.flags_getLsbD_zero (sc : Scene) : sc.flags.getLsbD 0 = sc.collisionAvoid := by
  rw [Scene.flags]
  cases sc.collisionAvoid <;> cases sc.onsetMode <;> rfl

theorem Scene.flags_getLsbD_one (sc : Scene) : (if sc.flags.getLsbD 1 then .atOnset else .atVoiced) = sc.onsetMode := by
  rw [Scene.flags]
  cases sc.collisionAvoid <;> cases sc.onsetMode <;> rfl

theorem map_nameByte {name : List Byte} (h : NameOk name) : name.map nameByte = name :=
  List.map_congr_left (fun b hb => nameByte_eq (h.2 b hb)) |>.trans (List.map_id' name)

/-- A record in range is read back from its own bytes (R117). -/
theorem parseScene_bytes {sc : Scene} (h : sc.Ok = true) : parseScene sc.bytes = some sc := by
  obtain ⟨hname, htonic, hscale, hcorr, hhyst, hglide, ⟨hcf1, hcf2⟩, ⟨hdg1, hdg2⟩, ⟨hdp1, hdp2⟩, ⟨hat1, hat2⟩,
    ⟨hre1, hre2⟩, hvoices⟩ := Scene.ok_iff.mp h
  have field (k : Nat) : byteAt sc.bytes (12 + k) = byteAt (sc.commonBytes ++ (sc.voices.v0.bytes ++ (sc.voices.v1.bytes ++
      (sc.voices.v2.bytes ++ sc.voices.v3.bytes)))) k := by
    rw [sc.bytes_eq_append]
    exact byteAt_append_right hname.1 _ k
  have eflags : byteAt sc.bytes 21 = sc.flags := field 9
  have ename : (sc.bytes.take 12).map nameByte = sc.name := by
    rw [sc.bytes_eq_append, List.take_left' hname.1, map_nameByte hname]
  rw [parseScene, show byteAt sc.bytes 14 = sc.keySource.byte from field 2, KeySource.ofByte_byte,
    parseVoices_bytes hname.1 hvoices]
  dsimp only
  rw [if_neg (by rw [natAt, eflags]; exact Nat.not_le.mpr sc.flags_toNat_lt), ename,
    natAt_eq (field 0) (by omega), clampNat_eq (Nat.zero_le _) htonic,
    natAt_eq (field 1) (by omega), clampNat_eq (Nat.zero_le _) hscale,
    natAt_eq (field 3) (by omega), clampNat_eq (Nat.zero_le _) hcorr,
    natAt_eq (field 4) (by omega), clampNat_eq (Nat.zero_le _) hhyst,
    nat16At_of_bytes (field 5) (field 6) (by omega), clampNat_eq (Nat.zero_le _) hglide,
    nat16At_of_bytes (field 7) (field 8) (by omega), clampNat_eq hcf1 hcf2,
    eflags, sc.flags_getLsbD_zero, sc.flags_getLsbD_one,
    intAt_eq (field 10) (by omega) (by omega), clampInt_eq hdg1 hdg2,
    intAt_eq (field 11) (by omega) (by omega), clampInt_eq hdp1 hdp2,
    natAt_eq (field 12) (by omega), clampNat_eq hat1 hat2, natAt_eq (field 13) (by omega), clampNat_eq hre1 hre2]

/-- Settles O42: the layout field by field, and each field read back from its place. -/
theorem recordsRoundTrip : Obligations.RecordsRoundTrip := by
  unfold Obligations.RecordsRoundTrip
  refine ⟨fun sc => ?_, fun p sc => clampMark_iff, fun sc h => ⟨parseScene_bytes h, ?_⟩⟩
  · rw [sc.bytes_eq_append, Scene.commonBytes, sc.flags_eq, KeySource.byte_eq]
    simp only [VoiceRule.bytes, UnvoicedPolicy.byte_eq, ← List.append_assoc]
    rfl
  · simp [clampMark]

end Sys2Proof.Machine
end

section
/-! Proofs: reading slots of the store and of the overlay (R129, R134, R154, R156). -/

namespace Sys2Proof.Machine

/-! ### Where a slot stands (R154, R156) -/

theorem SceneStore.stateAt_eq (st : SceneStore) {b i : Nat} (h : 8 * b + i < 64) :
    st.stateAt b i = st.table[8 * b + i] := by
  rw [SceneStore.stateAt, slotIndex, Vector.getElem?_eq_getElem h, Option.getD_some]

theorem SceneStore.recordAt_eq_some_iff {st : SceneStore} {b i : Nat} (h : 8 * b + i < 64) {r : Scene} :
    st.recordAt b i = some r ↔ st.table[8 * b + i] = .valid ∧ st.array[8 * b + i] = .valid r := by
  rw [SceneStore.recordAt, st.stateAt_eq h, slotIndex, Vector.getElem?_eq_getElem h, Option.getD_some,
    Option.ite_none_right_eq_some]
  refine and_congr_right fun _ => ?_
  cases st.array[8 * b + i] <;> simp

/-- A slot without a VALID state gives no record (R154). -/
theorem SceneStore.recordAt_eq_none {st : SceneStore} {b i : Nat} (h : st.stateAt b i ≠ .valid) : st.recordAt b i = none :=
  if_neg h

/-- The BUSY targets (R156). -/
theorem SceneStore.busyAt_iff {st : SceneStore} {b i : Nat} :
    st.busyAt b i = true ↔ ∃ o, st.op = some o ∧ o.status = .inFlight ∧
      ((∃ r stage, o.work = .program b i r stage) ∨ ∃ stage, o.work = .erase b stage) := by
  unfold SceneStore.busyAt
  cases st.op with
  | none => simp
  | some o =>
    obtain ⟨work, status, -, -, -, -⟩ := o
    cases work <;> simp

theorem Overlay.recordAt_eq (o : Overlay) {i : Nat} (h : i < 8) : o.recordAt i = o.ram[i] := by
  rw [Overlay.recordAt, Vector.getElem?_eq_getElem h, Option.getD_some]

/-! ### READ SLOT and OVERLAY READ -/

/-- A reading request whose payload has its length: its report, and no other change. -/
theorem exec_reads {c : Instr} {α : Type} {kind seq : Byte} {payload : List Byte} {parse : List Byte → Option α}
    {report : α → State → Reply} {s : State} {rest : List FifoEntry} {a : α} {r : Reply}
    (hc : exec c s = .next (dispatchRead kind seq payload parse report s)) (h : s.Takes (.frame kind seq payload) rest)
    (ha : parse payload = some a) (hr : report a { s with link := { s.link with fifo := rest } } = r) :
    exec c s = .next (s.answered rest (replyTo kind seq r.code r.payload)) :=
  exec_answers hc h s r ha (Prod.ext rfl hr)

section
variable {b i : Byte} {s : State}

theorem readSlotReport_badField (h : 7 < b.toNat ∨ 7 < i.toNat) : readSlotReport (b, i) s = .bare .badField := if_pos h

section
variable (hb : b.toNat ≤ 7) (hi : i.toNat ≤ 7)
include hb hi

theorem readSlotReport_overlay (hm : s.overlay.mapped = some b.toNat) :
    readSlotReport (b, i) s = .ok (1 :: overlaySlotBytes (s.overlay.recordAt i.toNat)) := by
  rw [readSlotReport, if_neg (by dsimp only; omega), if_pos hm]

theorem readSlotReport_busy (hm : s.overlay.mapped ≠ some b.toNat) (hbusy : s.store.busyAt b.toNat i.toNat = true) :
    readSlotReport (b, i) s = .bare .busy := by
  rw [readSlotReport, if_neg (by dsimp only; omega), if_neg hm, if_pos hbusy]

/-- The store's own answer (R156). -/
theorem readSlotReport_store (hm : s.overlay.mapped ≠ some b.toNat) (hbusy : s.store.busyAt b.toNat i.toNat = false) :
    readSlotReport (b, i) s = .ok ([0, (s.store.stateAt b.toNat i.toNat).byte] ++
      ((s.store.recordAt b.toNat i.toNat).map Scene.bytes).getD []) := by
  rw [readSlotReport, if_neg (by dsimp only; omega), if_neg hm, if_neg (by simp [hbusy])]

end
end

theorem exec_readSlot (seq : Byte) (p : List Byte) (s : State) :
    exec (.readSlot seq p) s = .next (dispatchRead 0x50 seq p twoPayload readSlotReport s) := rfl
theorem exec_overlayRead (seq : Byte) (p : List Byte) (s : State) :
    exec (.overlayRead seq p) s = .next (dispatchRead 0x5B seq p onePayload overlayReadReport s) := rfl

section
variable {seq b i : Byte} {rest : List FifoEntry} {s : State}

/-- READ SLOT's reply is its report, whatever else waits in the FIFO. -/
theorem readSlot_answers (h : s.Takes (.frame 0x50 seq [b, i]) rest) {r : Reply} (hr : readSlotReport (b, i) s = r) :
    exec (.readSlot seq [b, i]) s = .next (s.answered rest (replyTo 0x50 seq r.code r.payload)) :=
  exec_reads (exec_readSlot ..) h rfl hr

theorem overlayRead_answers (h : s.Takes (.frame 0x5B seq [i]) rest) {r : Reply} (hr : overlayReadReport i s = r) :
    exec (.overlayRead seq [i]) s = .next (s.answered rest (replyTo 0x5B seq r.code r.payload)) :=
  exec_reads (exec_overlayRead ..) h rfl hr

end

/-- Settles O35: the store's and the overlay's slots by their places, then each request case by case. -/
theorem slotReports : Obligations.SlotReports := by
  unfold Obligations.SlotReports
  refine ⟨fun st b i h => ⟨st.stateAt_eq h, fun r => SceneStore.recordAt_eq_some_iff h, SceneStore.busyAt_iff⟩,
    fun o i h => o.recordAt_eq h, fun seq b i rest s => ⟨fun h => ⟨fun hbad => ?_, fun hb hi => ⟨fun hm => ?_,
      fun hm hbusy => ?_, fun hm hbusy => ?_⟩⟩, fun h => ⟨fun hbad => ?_, fun hi => ?_⟩⟩⟩
  · exact readSlot_answers h (readSlotReport_badField hbad)
  · have hr := readSlotReport_overlay hb hi hm
    cases hrec : s.overlay.recordAt i.toNat <;> rw [hrec] at hr <;> exact readSlot_answers h hr
  · exact readSlot_answers h (readSlotReport_busy hb hi hm hbusy)
  · have hr := readSlotReport_store hb hi hm hbusy
    refine ⟨fun hstate => ?_, fun hstate => ?_, fun r hstate hrec => ?_⟩
    · rw [hstate, SceneStore.recordAt_eq_none (by rw [hstate]; decide)] at hr
      exact readSlot_answers h hr
    · rw [hstate, SceneStore.recordAt_eq_none (by rw [hstate]; decide)] at hr
      exact readSlot_answers h hr
    · rw [hstate, hrec] at hr
      exact readSlot_answers h hr
  · exact overlayRead_answers h (if_pos hbad)
  · have hr : overlayReadReport i s = .ok (overlaySlotBytes (s.overlay.recordAt i.toNat)) := if_neg (by omega)
    cases hrec : s.overlay.recordAt i.toNat <;> rw [hrec] at hr <;> exact overlayRead_answers h hr

end Sys2Proof.Machine
end

section
/-! Proofs: LOAD SCENE and LOAD INLINE SCENE (R119, R121, R122, R147). -/

namespace Sys2Proof.Machine

/-! ### The slot a load reads (R121, R129) -/

section
variable {s : State} {b i : Nat}

theorem State.readSlot_of_overlay (hm : s.overlay.mapped = some b) {r : Scene} (hr : s.overlay.recordAt i = some r) :
    s.readSlot b i = .overlay r := by
  rw [State.readSlot, if_pos hm, hr]

theorem State.readSlot_of_overlay_empty (hm : s.overlay.mapped = some b) (hr : s.overlay.recordAt i = none) :
    s.readSlot b i = .notValid := by
  rw [State.readSlot, if_pos hm, hr]

theorem State.readSlot_of_busy (hm : s.overlay.mapped ≠ some b) (hb : s.store.busyAt b i = true) : s.readSlot b i = .busy := by
  rw [State.readSlot, if_neg hm, if_pos hb]

section
variable (hm : s.overlay.mapped ≠ some b) (hb : s.store.busyAt b i = false)
include hm hb

theorem State.readSlot_of_store {r : Scene} (hr : s.store.recordAt b i = some r) : s.readSlot b i = .store r := by
  rw [State.readSlot, if_neg hm, if_neg (by simp [hb]), hr]

theorem State.readSlot_of_store_notValid (hst : s.store.stateAt b i ≠ .valid) : s.readSlot b i = .notValid := by
  rw [State.readSlot, if_neg hm, if_neg (by simp [hb]), SceneStore.recordAt_eq_none hst]

end
end

/-! ### A load answered OK -/

/-- The state once a record has been loaded: in force with its origin, no follow record, every cue preempted (R119, R121, R122,
R147). -/
def State.loaded (s : State) (sc : Scene) (src : OriginSource) : State :=
  { s with
    working := { scene := sc, origin := ⟨src, false⟩, follow := none }
    cues := { queue := [], counter := 0,
              results := expectedResults s.cues.results s.cues.counter .preempted s.cues.queue }
    notices := noticesAfter s.notices .cueDiscarded s.cues.results.length s.cues.queue.length }

/-- All that a load does. -/
theorem State.loadRecord_eq {s : State} (h : s.cues.results.length ≤ 16) (sc : Scene) (src : OriginSource) :
    s.loadRecord sc src = s.loaded sc src :=
  State.removeAll_eq (s := { s with working := { scene := sc, origin := ⟨src, false⟩, follow := none } }) h .preempted

theorem State.loadRecord_origin (s : State) (sc : Scene) (src : OriginSource) :
    (s.loadRecord sc src).working.origin = ⟨src, false⟩ := by
  rw [State.loadRecord, State.removeAll_working]

/-- The bytes of an origin that is neither edited nor detached, on a slot named by two bytes (9.5). -/
theorem Origin.bytes_slot (b i : Byte) : Origin.bytes ⟨.slot b.toNat i.toNat, false⟩ = [1, b, i, 0xFF, 0] := by
  simp [Origin.bytes, byteOfNat, markByte, absentByte]

theorem Origin.bytes_overlay (b i : Byte) : Origin.bytes ⟨.overlay b.toNat i.toNat false, false⟩ = [2, b, i, 0xFF, 0] := by
  simp [Origin.bytes, byteOfNat, markByte, absentByte]

/-! ### The requests -/

theorem exec_loadScene (seq : Byte) (p : List Byte) (s : State) :
    exec (.loadScene seq p) s = .next (dispatch 0x30 seq p twoPayload loadSceneWork s) := rfl
theorem exec_loadInlineScene (seq : Byte) (p : List Byte) (s : State) :
    exec (.loadInlineScene seq p) s = .next (dispatch 0x31 seq p (lengthPayload 58) loadInlineWork s) := rfl

/-- A payload of its length is taken as it stands. -/
theorem lengthPayload_eq {n : Nat} {p : List Byte} (h : p.length = n) : lengthPayload n p = some p := if_pos h

/-- A taken request whose work loads a record: the state with the record loaded, and the reply. -/
theorem exec_loads {c : Instr} {α : Type} {kind seq : Byte} {payload : List Byte} {parse : List Byte → Option α}
    {work : α → State → State × Reply} {s : State} {rest : List FifoEntry} {a : α} {sc : Scene} {src : OriginSource}
    {bytes : List Byte} (hc : exec c s = .next (dispatch kind seq payload parse work s))
    (h : s.Takes (.frame kind seq payload) rest) (ha : parse payload = some a) (hr : s.cues.results.length ≤ 16)
    (hw : work a { s with link := { s.link with fifo := rest } } =
      (State.loadRecord { s with link := { s.link with fifo := rest } } sc src, .ok bytes)) :
    exec c s = .next ((s.loaded sc src).answered rest (replyTo kind seq .ok bytes)) := by
  rw [State.loadRecord_eq (s := { s with link := { s.link with fifo := rest } }) hr] at hw
  exact exec_answers hc h (s.loaded sc src) (.ok bytes) ha hw

section
variable {s : State} {b i : Byte}

theorem loadSceneWork_badField (h : 7 < b.toNat ∨ 7 < i.toNat) : loadSceneWork (b, i) s = (s, .bare .badField) := if_pos h

section
variable (hb : b.toNat ≤ 7) (hi : i.toNat ≤ 7)
include hb hi

theorem loadSceneWork_overlay {r : Scene} (hr : s.readSlot b.toNat i.toNat = .overlay r) :
    loadSceneWork (b, i) s = (s.loadRecord r (.overlay b.toNat i.toNat false), .ok [2, b, i, 0xFF, 0]) := by
  rw [loadSceneWork, if_neg (by dsimp only; omega), hr]
  dsimp only
  rw [State.loadRecord_origin, Origin.bytes_overlay]

theorem loadSceneWork_store {r : Scene} (hr : s.readSlot b.toNat i.toNat = .store r) :
    loadSceneWork (b, i) s = (s.loadRecord r (.slot b.toNat i.toNat), .ok [1, b, i, 0xFF, 0]) := by
  rw [loadSceneWork, if_neg (by dsimp only; omega), hr]
  dsimp only
  rw [State.loadRecord_origin, Origin.bytes_slot]

theorem loadSceneWork_notValid (hr : s.readSlot b.toNat i.toNat = .notValid) :
    loadSceneWork (b, i) s = (s, .bare .notValid) := by
  rw [loadSceneWork, if_neg (by dsimp only; omega), hr]

theorem loadSceneWork_busy (hr : s.readSlot b.toNat i.toNat = .busy) : loadSceneWork (b, i) s = (s, .bare .busy) := by
  rw [loadSceneWork, if_neg (by dsimp only; omega), hr]

end
end

/-- The clamp mark as a reply's byte. -/
theorem markByte_clampMark (p : List Byte) (sc : Scene) : markByte (clampMark p sc) = if sc.bytes = p then 0 else 1 := by
  simp [markByte, clampMark]

/-- Settles O43: the slot that is read decides LOAD SCENE, the check of the record LOAD INLINE SCENE. -/
theorem sceneLoads : Obligations.SceneLoads := by
  unfold Obligations.SceneLoads
  intro seq rest s ⟨_, _, _, _, _, _, _, hr⟩
  refine ⟨fun b i h => ⟨fun hbad => ?_, fun hb hi => ⟨fun hm hrec => ?_, fun r hm hrec => ?_, fun hm hbusy => ?_,
    fun hm hbusy hstate => ?_, fun r hm hbusy hrec => ?_⟩⟩, fun p hp h => ⟨fun hparse => ?_, fun sc hparse => ?_⟩⟩
  · exact exec_answers (exec_loadScene ..) h s (.bare .badField) (a := (b, i)) rfl (loadSceneWork_badField hbad)
  · exact exec_answers (exec_loadScene ..) h s (.bare .notValid) (a := (b, i)) rfl
      (loadSceneWork_notValid hb hi (State.readSlot_of_overlay_empty hm hrec))
  · exact exec_loads (exec_loadScene ..) h (a := (b, i)) rfl hr
      (loadSceneWork_overlay hb hi (State.readSlot_of_overlay hm hrec))
  · exact exec_answers (exec_loadScene ..) h s (.bare .busy) (a := (b, i)) rfl
      (loadSceneWork_busy hb hi (State.readSlot_of_busy hm hbusy))
  · exact exec_answers (exec_loadScene ..) h s (.bare .notValid) (a := (b, i)) rfl
      (loadSceneWork_notValid hb hi (State.readSlot_of_store_notValid hm hbusy hstate))
  · exact exec_loads (exec_loadScene ..) h (a := (b, i)) rfl hr
      (loadSceneWork_store hb hi (State.readSlot_of_store hm hbusy hrec))
  · exact exec_answers (exec_loadInlineScene ..) h s (.bare .badField) (lengthPayload_eq hp) (by rw [loadInlineWork, hparse])
  · exact exec_loads (exec_loadInlineScene ..) h (lengthPayload_eq hp) hr
      (by rw [loadInlineWork, hparse]; dsimp only; rw [markByte_clampMark])

end Sys2Proof.Machine
end

section
/-! Proofs: OVERLAY ON, OVERLAY OFF and OVERLAY WRITE (R119, R128, R130, R131, R133). -/

namespace Sys2Proof.Machine

/-! ### The RAM slots (R127) -/

theorem Overlay.ram_toList (o : Overlay) : o.ram.toList = (List.range 8).map o.recordAt := by
  refine List.ext_getElem (by simp) fun i hi _ => ?_
  have h8 : i < 8 := by simpa using hi
  simp [o.recordAt_eq h8]

/-- A RAM slot's state, slot by slot. -/
theorem Overlay.stateBytes_eq (o : Overlay) :
    o.stateBytes = (List.range 8).map fun i => if (o.recordAt i).isSome then 1 else 0 := by
  rw [Overlay.stateBytes, o.ram_toList, List.map_map]
  rfl

/-- OVERLAY ON copies the bank slot for slot (R128). -/
theorem Overlay.recordAt_copyBank (st : SceneStore) (b : Nat) (mapped : Option Nat) {i : Nat} (h : i < 8) :
    Overlay.recordAt ⟨mapped, st.copyBank b⟩ i = st.recordAt b i := by
  rw [Overlay.recordAt_eq _ h]
  exact Vector.getElem_ofFn h

/-- OVERLAY WRITE changes the slot it names alone (R130). -/
theorem Overlay.recordAt_write (o : Overlay) {i : Nat} (hi : i < 8) (sc : Scene) (j : Nat) :
    Overlay.recordAt { o with ram := o.ram.setIfInBounds i (some sc) } j = if j = i then some sc else o.recordAt j := by
  rw [Overlay.recordAt, Overlay.recordAt, setIfInBounds_eq_set _ hi, Vector.getElem?_set]
  simp only [eq_comm (a := i)]
  split <;> rfl

/-- The origin as a slot's follower (R131). -/
theorem follow_eq (src : OriginSource) (i : Nat) (sc : Scene) (f : Option Follow) :
    (if src.follows i then some ⟨i, sc⟩ else f) = match src with
      | .overlay _ j false => if j = i then some ⟨j, sc⟩ else f
      | _ => f := by
  cases src with
  | overlay b j detached =>
    cases detached with
    | true => simp [OriginSource.follows]
    | false =>
      by_cases h : j = i <;> simp [OriginSource.follows, h]
  | _ => rfl

/-- OVERLAY OFF detaches every overlay origin (R133). -/
theorem OriginSource.detachIf_true (src : OriginSource) :
    src.detachIf (fun _ => true) = match src with
      | .overlay b i _ => .overlay b i true
      | other => other := by
  cases src with
  | overlay b i detached => exact congrArg _ (Bool.or_true detached)
  | _ => rfl

/-! ### The requests -/

theorem natAt_cons_zero (a : Byte) (p : List Byte) : natAt (a :: p) 0 = a.toNat := rfl

theorem exec_overlayOn (seq : Byte) (p : List Byte) (s : State) :
    exec (.overlayOn seq p) s = .next (dispatch 0x58 seq p onePayload overlayOnWork s) := rfl
theorem exec_overlayOff (seq : Byte) (p : List Byte) (s : State) :
    exec (.overlayOff seq p) s = .next (dispatch 0x59 seq p noPayload overlayOffWork s) := rfl
theorem exec_overlayWrite (seq : Byte) (p : List Byte) (s : State) :
    exec (.overlayWrite seq p) s = .next (dispatch 0x5A seq p (lengthPayload 59) overlayWriteWork s) := rfl

/-- The Working Scene once OVERLAY ON or OVERLAY OFF has written the origin's source: the follow record is dropped (R128,
R133). -/
def Working.sourced (w : Working) (src : OriginSource) : Working :=
  { scene := w.scene, origin := { w.origin with source := src }, follow := none }

section
variable {b : Byte} {s : State}

theorem overlayOnWork_badField (hb : 7 < b.toNat) : overlayOnWork b s = (s, .bare .badField) := if_pos hb

theorem overlayOnWork_frozen (hb : b.toNat ≤ 7) (hf : s.store.frozen = true) : overlayOnWork b s = (s, .bare .frozen) := by
  rw [overlayOnWork, if_neg (Nat.not_lt.mpr hb), if_pos hf]

section
variable (hb : b.toNat ≤ 7) (hf : s.store.frozen = false)
include hb hf

theorem overlayOnWork_busy (hi : s.store.inFlight = true) : overlayOnWork b s = (s, .bare .busy) := by
  rw [overlayOnWork, if_neg (Nat.not_lt.mpr hb), if_neg (Bool.eq_false_iff.mp hf), if_pos hi]

/-- OVERLAY ON answered OK (R128). -/
theorem overlayOnWork_maps (hi : s.store.inFlight = false) :
    overlayOnWork b s =
      ({ s with
          overlay := ⟨some b.toNat, s.store.copyBank b.toNat⟩
          working := s.working.sourced (s.working.origin.source.detachIf fun b' => b' ≠ b.toNat) },
        .ok (b :: Overlay.stateBytes ⟨some b.toNat, s.store.copyBank b.toNat⟩)) := by
  rw [overlayOnWork, if_neg (Nat.not_lt.mpr hb), if_neg (Bool.eq_false_iff.mp hf), if_neg (Bool.eq_false_iff.mp hi)]
  rfl

end

theorem overlayOffWork_unmapped (hm : s.overlay.mapped = none) : overlayOffWork () s = (s, .ok [0xFF]) := by
  simp [overlayOffWork, hm, absentByte]

/-- OVERLAY OFF of an ACTIVE overlay (R133). -/
theorem overlayOffWork_unmaps {m : Nat} (hm : s.overlay.mapped = some m) :
    overlayOffWork () s =
      ({ s with
          overlay := { s.overlay with mapped := none }
          working := s.working.sourced (s.working.origin.source.detachIf fun _ => true) }, .ok [byteOfNat m]) := by
  simp [overlayOffWork, hm, Working.sourced]

variable {i : Byte} {p : List Byte}

theorem overlayWriteWork_refuses (hbad : 7 < i.toNat ∨ parseScene p = none) :
    overlayWriteWork (i :: p) s = (s, .bare .badField) := by
  rw [overlayWriteWork, natAt_cons_zero]
  by_cases hi : 7 < i.toNat
  · exact if_pos hi
  · rw [if_neg hi, List.tail_cons, hbad.resolve_left hi]

/-- OVERLAY WRITE answered OK (R130, R131). -/
theorem overlayWriteWork_writes (hi : i.toNat ≤ 7) {sc : Scene} (hp : parseScene p = some sc) :
    overlayWriteWork (i :: p) s =
      ({ s with
          overlay := { s.overlay with ram := s.overlay.ram.setIfInBounds i.toNat (some sc) }
          working := { s.working with
            follow := if s.working.origin.source.follows i.toNat then some ⟨i.toNat, sc⟩ else s.working.follow } },
        .ok [if sc.bytes = p then 0 else 1]) := by
  rw [overlayWriteWork, natAt_cons_zero, if_neg (Nat.not_lt.mpr hi), List.tail_cons, hp]
  dsimp only
  rw [markByte_clampMark]

end

/-- Settles O45: each request's work case by case; the overlay's slots and the origin are read off what it writes. -/
theorem overlayRequests : Obligations.OverlayRequests := by
  unfold Obligations.OverlayRequests
  intro seq rest s
  refine ⟨fun b h => ⟨fun hb => ?_, fun hb hf => ?_, fun hb hf hi => ?_, fun hb hf hi => ?_⟩,
    fun h => ⟨fun hm => ?_, fun b hm => ?_⟩, fun i p hl h => ⟨fun hbad => ?_, fun sc hi hp => ?_⟩⟩
  · exact exec_answers (exec_overlayOn ..) h s (.bare .badField) rfl (overlayOnWork_badField hb)
  · exact exec_answers (exec_overlayOn ..) h s (.bare .frozen) rfl (overlayOnWork_frozen hb hf)
  · exact exec_answers (exec_overlayOn ..) h s (.bare .busy) rfl (overlayOnWork_busy hb hf hi)
  · refine ⟨⟨some b.toNat, s.store.copyBank b.toNat⟩, rfl, fun i => Overlay.recordAt_copyBank _ _ _, ?_⟩
    rw [← Overlay.stateBytes_eq]
    exact exec_answers (exec_overlayOn ..) h
      { s with
        overlay := ⟨some b.toNat, s.store.copyBank b.toNat⟩
        working := s.working.sourced (s.working.origin.source.detachIf fun b' => b' ≠ b.toNat) } (.ok _) rfl
      (overlayOnWork_maps hb hf hi)
  · exact exec_answers (exec_overlayOff ..) h s (.ok [0xFF]) (a := ()) rfl (overlayOffWork_unmapped hm)
  · have hanswer := exec_answers (exec_overlayOff ..) h
      { s with
        overlay := { s.overlay with mapped := none }
        working := s.working.sourced (s.working.origin.source.detachIf fun _ => true) } (.ok _) (a := ()) rfl
      (overlayOffWork_unmaps hm)
    rw [OriginSource.detachIf_true] at hanswer
    exact hanswer
  · exact exec_answers (exec_overlayWrite ..) h s (.bare .badField) (lengthPayload_eq (congrArg Nat.succ hl))
      (overlayWriteWork_refuses hbad)
  · refine ⟨{ s.overlay with ram := s.overlay.ram.setIfInBounds i.toNat (some sc) }, rfl,
      Overlay.recordAt_write _ (by omega) sc, ?_⟩
    have hanswer := exec_answers (exec_overlayWrite ..) h
      { s with
        overlay := { s.overlay with ram := s.overlay.ram.setIfInBounds i.toNat (some sc) }
        working := { s.working with
          follow := if s.working.origin.source.follows i.toNat then some ⟨i.toNat, sc⟩ else s.working.follow } } (.ok _)
      (lengthPayload_eq (congrArg Nat.succ hl)) (overlayWriteWork_writes hi hp)
    rw [follow_eq] at hanswer
    exact hanswer

end Sys2Proof.Machine
end

section
/-! Proofs: EDIT WORKING SCENE (R124, R125, R174). -/

namespace Sys2Proof.Machine

/-! ### The values an edit stores -/

/-- A numeric edit stores the clamped value, and the mark tells a value outside its range (R124). -/
theorem editNumber_eq {lo hi : Int} (h : lo ≤ hi) (v : Int) (store : Int → Scene) :
    editNumber lo hi v store =
      some ⟨store (max lo (min hi v)), max lo (min hi v), none, decide (v < lo ∨ hi < v)⟩ := by
  have hmark : decide (max lo (min hi v) ≠ v) = decide (v < lo ∨ hi < v) := decide_eq_decide.mpr (by omega)
  rw [editNumber, clampInt_eq_max h, hmark]

theorem editFlag_eq_none {v : Int} (h0 : v ≠ 0) (h1 : v ≠ 1) (store : Bool → Scene) : editFlag v store = none := by
  rw [editFlag, if_neg h0, if_neg h1]

theorem clampAmount_eq (m : VoiceMode) (a : Int) :
    clampAmount m a = max (amountRange m).1 (min (amountRange m).2 a) := clampInt_eq_max (amountRange_le m) a

/-! ### The fields by their identifiers -/

section
variable {sc : Scene} {id voice : Nat} {v : Int}

theorem editScene_of_lt (h : id < 0x10) : editScene sc id voice v = editSceneField sc id v := if_neg (Nat.not_le.mpr h)

theorem editScene_voice_none (h : 0x10 ≤ id) (hvoice : 3 < voice) : editScene sc id voice v = none := by
  rw [editScene, if_pos h, if_pos hvoice]

/-- A voice field edited in a voice 0 to 3. -/
theorem editScene_voice (h : 0x10 ≤ id) (hvoice : voice ≤ 3) :
    editScene sc id voice v = (editVoiceField (sc.voices.get voice) id v).map fun e =>
      ⟨{ sc with voices := sc.voices.set voice e.rule }, e.stored, e.second, e.clamped⟩ := by
  rw [editScene, if_pos h, if_neg (Nat.not_lt.mpr hvoice)]

theorem editScene_voice_refuses (h : 0x10 ≤ id) (hvoice : voice ≤ 3)
    (he : editVoiceField (sc.voices.get voice) id v = none) : editScene sc id voice v = none := by
  rw [editScene_voice h hvoice, he, Option.map_none]

theorem editScene_voice_stores (h : 0x10 ≤ id) (hvoice : voice ≤ 3) {r : VoiceRule} {stored : Int} {second : Option Int}
    {clamped : Bool} (he : editVoiceField (sc.voices.get voice) id v = some ⟨r, stored, second, clamped⟩) :
    editScene sc id voice v = some ⟨{ sc with voices := sc.voices.set voice r }, stored, second, clamped⟩ := by
  rw [editScene_voice h hvoice, he, Option.map_some]

theorem editVoiceField_none {r : VoiceRule} (h : 0x18 ≤ id) : editVoiceField r id v = none := by
  unfold editVoiceField
  split
  case h_9 => rfl
  all_goals omega

/-- Identifiers of no field are refused (R124). -/
theorem editScene_no_field (h : id = 0 ∨ (0x0E ≤ id ∧ id ≤ 0x0F) ∨ 0x18 ≤ id) : editScene sc id voice v = none := by
  rcases h with rfl | ⟨hlo, hhi⟩ | h
  · rfl
  · obtain rfl | rfl : id = 0x0E ∨ id = 0x0F := by omega
    · rfl
    · rfl
  · by_cases hvoice : voice ≤ 3
    · rw [editScene_voice (by omega) hvoice, editVoiceField_none h]
      rfl
    · exact editScene_voice_none (by omega) (by omega)

/-- A two-valued scene field refuses every other value (R124, R174). -/
theorem editScene_flag_none (h : id = 0x03 ∨ id = 0x08 ∨ id = 0x09) (h0 : v ≠ 0) (h1 : v ≠ 1) :
    editScene sc id voice v = none := by
  rcases h with rfl | rfl | rfl <;> rw [editScene_of_lt (by decide), editSceneField, editFlag_eq_none h0 h1]

section
variable (hv : v = 0 ∨ v = 1)
include hv

theorem editScene_keySource :
    editScene sc 0x03 voice v = some ⟨{ sc with keySource := if v = 1 then .chord else .scene }, v, none, false⟩ := by
  rcases hv with rfl | rfl <;> rfl

theorem editScene_collisionAvoid :
    editScene sc 0x08 voice v = some ⟨{ sc with collisionAvoid := v = 1 }, v, none, false⟩ := by
  rcases hv with rfl | rfl <;> rfl

theorem editScene_onsetMode :
    editScene sc 0x09 voice v = some ⟨{ sc with onsetMode := if v = 1 then .atOnset else .atVoiced }, v, none, false⟩ := by
  rcases hv with rfl | rfl <;> rfl

theorem editVoiceField_policy (r : VoiceRule) :
    editVoiceField r 0x17 v = some ⟨{ r with policy := if v = 1 then .hold else .mute }, v, none, false⟩ := by
  rcases hv with rfl | rfl <;> rfl

end

theorem editVoiceField_policy_none (r : VoiceRule) (h0 : v ≠ 0) (h1 : v ≠ 1) : editVoiceField r 0x17 v = none :=
  (if_neg h0).trans (if_neg h1)

theorem toNat_ofInt_byte (h0 : 0 ≤ v) (h : v ≤ 255) : (BitVec.ofInt 8 v).toNat = v.toNat := by
  rw [BitVec.toNat_ofInt, Int.emod_eq_of_lt h0 (by omega)]

/-- The mode a two-byte value names (R174). -/
theorem VoiceMode.ofByte_ofInt (h0 : 0 ≤ v) (h : v ≤ 255) :
    VoiceMode.ofByte (BitVec.ofInt 8 v) = [VoiceMode.off, .scale, .chord, .semitone, .drone][v.toNat]? := by
  rw [VoiceMode.ofByte_eq, toNat_ofInt_byte h0 h]

/-- A value outside the five modes is refused (R124). -/
theorem editVoiceField_mode_none (r : VoiceRule) (h : v < 0 ∨ 4 < v) : editVoiceField r 0x10 v = none := by
  rw [editVoiceField]
  by_cases hbyte : v < 0 ∨ 255 < v
  · exact if_pos hbyte
  · rw [if_neg hbyte, VoiceMode.ofByte_ofInt (by omega) (by omega), List.getElem?_eq_none (by simp; omega), Option.map_none]

/-- An edited mode is one of the five, and the amount follows into its range (R125). -/
theorem editVoiceField_mode_some {r : VoiceRule} {m : VoiceMode} (h0 : 0 ≤ v)
    (hm : [VoiceMode.off, .scale, .chord, .semitone, .drone][v.toNat]? = some m) :
    let a := max (amountRange m).1 (min (amountRange m).2 r.amount)
    editVoiceField r 0x10 v = some ⟨{ r with mode := m, amount := a }, v, some a, a ≠ r.amount⟩ := by
  obtain ⟨h5, -⟩ := List.getElem?_eq_some_iff.mp hm
  have h4 : v.toNat < 5 := h5
  rw [editVoiceField, if_neg (by omega), VoiceMode.ofByte_ofInt h0 (by omega), hm, Option.map_some, clampAmount_eq]

end

/-! ### The request -/

/-- A whole number as a second stored value. -/
theorem twoBytesInt_natCast (n : Nat) : twoBytesInt n = twoBytes (BitVec.ofNat 16 n) := by
  rw [twoBytesInt, BitVec.ofInt_natCast]

theorem exec_editWorkingScene (seq : Byte) (p : List Byte) (s : State) :
    exec (.editWorkingScene seq p) s = .next (dispatch 0x32 seq p fourPayload editWork s) := rfl

section
variable {seq id voice hi lo : Byte} {rest : List FifoEntry} {s : State}
  (h : s.Takes (.frame 0x32 seq [id, voice, hi, lo]) rest)
include h

theorem edit_refuses (he : editScene s.working.scene id.toNat voice.toNat (hi ++ lo).toInt = none) :
    exec (.editWorkingScene seq [id, voice, hi, lo]) s = .next (s.answered rest (replyTo 0x32 seq .badField [])) := by
  refine exec_answers (exec_editWorkingScene ..) h s (.bare .badField) (a := (id, voice, hi, lo)) rfl ?_
  simp only [editWork, word16, he]

/-- An edit that is taken: the record and the edited mark, and the reply with the values stored (R124, R125). -/
theorem edit_stores {sc : Scene} {stored : Int} {second : Option Int} {clamped : Bool} {secondBytes : List Byte}
    (he : editScene s.working.scene id.toNat voice.toNat (hi ++ lo).toInt = some ⟨sc, stored, second, clamped⟩)
    (hsecond : (second.map twoBytesInt).getD absentTwo = secondBytes) :
    exec (.editWorkingScene seq [id, voice, hi, lo]) s = .next (State.answered { s with working := { s.working with
      scene := sc, origin := { s.working.origin with edited := true } } } rest (replyTo 0x32 seq .ok
        ([id, voice] ++ twoBytes (BitVec.ofInt 16 stored) ++ secondBytes ++ [if clamped then 1 else 0]))) := by
  refine exec_answers (exec_editWorkingScene ..) h
    { s with working := { s.working with scene := sc, origin := { s.working.origin with edited := true } } }
    (.ok ([id, voice] ++ twoBytes (BitVec.ofInt 16 stored) ++ secondBytes ++ [if clamped then 1 else 0]))
    (a := (id, voice, hi, lo)) rfl ?_
  simp only [editWork, word16, he, hsecond]
  rfl

/-- A numeric field of the scene (R124). -/
theorem edit_stores_number (a b : Int) (store : Int → Scene) (hab : a ≤ b)
    (he : editScene s.working.scene id.toNat voice.toNat (hi ++ lo).toInt = editNumber a b (hi ++ lo).toInt store) :
    exec (.editWorkingScene seq [id, voice, hi, lo]) s = .next (State.answered { s with working := { s.working with
      scene := store (max a (min b (hi ++ lo).toInt)), origin := { s.working.origin with edited := true } } } rest
        (replyTo 0x32 seq .ok ([id, voice] ++ twoBytes (BitVec.ofInt 16 (max a (min b (hi ++ lo).toInt))) ++ [0xFF, 0xFF] ++
          [if decide ((hi ++ lo).toInt < a ∨ b < (hi ++ lo).toInt) then 1 else 0]))) :=
  edit_stores h (he.trans (editNumber_eq hab _ store)) rfl

end

/-- Settles O44, identifier by identifier. -/
theorem liveEdits : Obligations.LiveEdits := by
  unfold Obligations.LiveEdits
  intro seq id voice hi lo rest s h v sc refused edits number rule withRule
  refine ⟨fun hid => edit_refuses h ?_, fun hid h0 h1 => edit_refuses h ?_, ?_, ?_, ?_, ?_, ?_, ?_, ?_, ?_, ?_, ?_, ?_, ?_, ?_,
    fun hvoice => ⟨?_, ?_, ?_, ?_, ?_, ?_, ?_, ?_, ?_, ?_⟩⟩
  · rcases hid with rfl | hid | hid | ⟨hid, hvoice⟩
    · exact editScene_no_field (.inl rfl)
    · exact editScene_no_field (.inr (.inl hid))
    · exact editScene_no_field (.inr (.inr hid))
    · exact editScene_voice_none hid hvoice
  · exact editScene_flag_none (hid.imp (congrArg _) (.imp (congrArg _) (congrArg _))) h0 h1
  · rintro rfl; exact edit_stores_number h 0 11 (fun x => { s.working.scene with tonic := x.toNat }) (by decide) rfl
  · rintro rfl; exact edit_stores_number h 0 15 (fun x => { s.working.scene with scaleIndex := x.toNat }) (by decide) rfl
  · rintro rfl hv; exact edit_stores h (editScene_keySource hv) rfl
  · rintro rfl; exact edit_stores_number h 0 100 (fun x => { s.working.scene with correction := x.toNat }) (by decide) rfl
  · rintro rfl; exact edit_stores_number h 0 40 (fun x => { s.working.scene with hysteresis := x.toNat }) (by decide) rfl
  · rintro rfl; exact edit_stores_number h 0 1200 (fun x => { s.working.scene with glide := x.toNat }) (by decide) rfl
  · rintro rfl; exact edit_stores_number h 32 512 (fun x => { s.working.scene with crossfade := x.toNat }) (by decide) rfl
  · rintro rfl hv; exact edit_stores h (editScene_collisionAvoid hv) rfl
  · rintro rfl hv; exact edit_stores h (editScene_onsetMode hv) rfl
  · rintro rfl; exact edit_stores_number h (-120) 12 (fun x => { s.working.scene with dryGain := x }) (by decide) rfl
  · rintro rfl; exact edit_stores_number h (-50) 50 (fun x => { s.working.scene with dryPan := x }) (by decide) rfl
  · rintro rfl; exact edit_stores_number h 1 32 (fun x => { s.working.scene with attack := x.toNat }) (by decide) rfl
  · rintro rfl; exact edit_stores_number h 1 64 (fun x => { s.working.scene with release := x.toNat }) (by decide) rfl
  · rintro rfl hv
    exact edit_refuses h (editScene_voice_refuses (by decide) hvoice (editVoiceField_mode_none _ hv))
  · rintro m rfl h0 hm
    exact edit_stores h (editScene_voice_stores (by decide) hvoice (editVoiceField_mode_some h0 hm)) rfl
  · rintro rfl
    exact edit_stores_number h _ _ (fun x => withRule { rule with amount := x }) (amountRange_le _)
      (editScene_voice (by decide) hvoice)
  · rintro rfl
    exact edit_stores h (editScene_voice_stores (by decide) hvoice rfl) (twoBytesInt_natCast _)
  · rintro rfl
    exact edit_stores h (editScene_voice_stores (by decide) hvoice rfl) (twoBytesInt_natCast _)
  · rintro rfl
    exact edit_stores_number h (-50) 50 (fun x => withRule { rule with detune := x }) (by decide)
      (editScene_voice (by decide) hvoice)
  · rintro rfl
    exact edit_stores_number h (-120) 12 (fun x => withRule { rule with gain := x }) (by decide)
      (editScene_voice (by decide) hvoice)
  · rintro rfl
    exact edit_stores_number h (-50) 50 (fun x => withRule { rule with pan := x }) (by decide)
      (editScene_voice (by decide) hvoice)
  · rintro rfl hv
    exact edit_stores h (editScene_voice_stores (by decide) hvoice (editVoiceField_policy hv _)) rfl
  · rintro rfl h0 h1
    exact edit_refuses h (editScene_voice_refuses (by decide) hvoice (editVoiceField_policy_none _ h0 h1))

end Sys2Proof.Machine
end

section
/-! Proofs: the checks of ENQUEUE CUE on its fields (R140). -/

namespace Sys2Proof.Machine

/-! ### Each field by its byte (9.7) -/

/-- A trigger byte of the enumeration, the count clamped where it is BEATS. -/
theorem enqueueTrigger_eq {trigger : Byte} (h : trigger.toNat ≤ 2) (count : Byte) :
    enqueueTrigger trigger count =
      some (if trigger = 0 then .footswitch else if trigger = 1 then .beats (max 1 (min 64 count.toNat)) else .phrase,
        trigger = 1 && max 1 (min 64 count.toNat) ≠ count.toNat) := by
  have hcases : trigger = 0 ∨ trigger = 1 ∨ trigger = 2 := by bv_omega
  rcases hcases with rfl | rfl | rfl
  · rfl
  · simp [enqueueTrigger, clampNat_eq_max]
  · rfl

theorem enqueueTrigger_eq_none {trigger : Byte} (h : 2 < trigger.toNat) (count : Byte) :
    enqueueTrigger trigger count = none := by
  rw [enqueueTrigger, if_neg (by bv_omega), if_neg (by bv_omega), if_neg (by bv_omega)]

/-- A trigger that passed the check has its count in range (R135). -/
theorem enqueueTrigger_ok {trigger count : Byte} {r : CueTrigger × Bool} (h : enqueueTrigger trigger count = some r) :
    r.1.Ok = true := by
  unfold enqueueTrigger at h
  split at h
  · cases h; rfl
  · split at h
    · cases h
      simp [CueTrigger.Ok, le_clampNat, clampNat_le]
    · split at h <;> cases h
      rfl

theorem CueLanding.ofByte_eq {b : Byte} (h : b.toNat ≤ 1) :
    CueLanding.ofByte b = some (if b = 0 then .atTrigger else .atPhrase) := by
  have hcases : b = 0 ∨ b = 1 := by bv_omega
  rcases hcases with rfl | rfl <;> rfl

theorem CueLanding.ofByte_eq_none {b : Byte} (h : 1 < b.toNat) : CueLanding.ofByte b = none := by
  rw [CueLanding.ofByte, if_neg (by bv_omega), if_neg (by bv_omega)]

/-! ### The source (R140) -/

section
variable {f : EnqueueFields}

theorem enqueueSource_slot (hf : f.source = 0) (hb : f.bank.toNat ≤ 7) (hi : f.slot.toNat ≤ 7) :
    enqueueSource f = some (.slot f.bank.toNat f.slot.toNat, false) := by
  rw [enqueueSource, if_pos hf, if_neg (by omega)]

theorem enqueueSource_inline (hf : f.source = 1) {sc : Scene} (hsc : parseScene f.record = some sc) :
    enqueueSource f = some (.inline sc, clampMark f.record sc) := by
  rw [enqueueSource, if_neg (by rw [hf]; decide), if_pos hf, hsc, Option.map_some]

/-- The source's fields fail the first check of R140. -/
abbrev EnqueueFields.BadSource (f : EnqueueFields) : Prop :=
  1 < f.source.toNat ∨ (f.source = 0 ∧ (7 < f.bank.toNat ∨ 7 < f.slot.toNat)) ∨
    (f.source = 1 ∧ parseScene f.record = none)

theorem enqueueSource_eq_none (h : f.BadSource) : enqueueSource f = none := by
  rcases h with h | ⟨h, hslot⟩ | ⟨h, hsc⟩
  · rw [enqueueSource, if_neg (by bv_omega), if_neg (by bv_omega)]
  · rw [enqueueSource, if_pos h, if_pos hslot]
  · rw [enqueueSource, if_neg (by rw [h]; decide), if_pos h, hsc, Option.map_none]

theorem enqueueSource_eq_some (h : ¬f.BadSource) : ∃ src mark, enqueueSource f = some (src, mark) := by
  obtain ⟨hkind, hslot, hsc⟩ := not_or.mp h |>.imp_right not_or.mp
  have hcases : f.source = 0 ∨ f.source = 1 := by bv_omega
  rcases hcases with hf | hf
  · have hin : ¬(7 < f.bank.toNat ∨ 7 < f.slot.toNat) := fun hout => hslot ⟨hf, hout⟩
    exact ⟨_, _, enqueueSource_slot hf (by omega) (by omega)⟩
  · obtain ⟨sc, hp⟩ := Option.ne_none_iff_exists'.mp fun hp => hsc ⟨hf, hp⟩
    exact ⟨_, _, enqueueSource_inline hf hp⟩

/-! ### The first check of R140 -/

/-- The fields fail the first check of R140. -/
abbrev EnqueueFields.Bad (f : EnqueueFields) : Prop :=
  f.tag = 0 ∨ 2 < f.trigger.toNat ∨ 1 < f.landing.toNat ∨ f.BadSource

/-- What the first check of R140 leaves of fields that pass it, with the source and its clamp mark. -/
def EnqueueFields.checked (f : EnqueueFields) (src : EnqueueSource) (mark : Bool) : Enqueue :=
  { tag := f.tag.toNat, source := src
    trigger := if f.trigger = 0 then .footswitch else if f.trigger = 1 then .beats (max 1 (min 64 f.count.toNat)) else .phrase
    landing := if f.landing = 0 then .atTrigger else .atPhrase, deadline := min 64 f.deadline.toNat
    clamped := mark || (f.trigger = 1 && max 1 (min 64 f.count.toNat) ≠ f.count.toNat) ||
      min 64 f.deadline.toNat ≠ f.deadline.toNat }

theorem checkEnqueue_eq_none (h : f.Bad) : checkEnqueue f = none := by
  unfold checkEnqueue
  split
  · rfl
  · next htag =>
    split
    · next ht hl hs =>
      rcases h with h | h | h | h
      · exact absurd h htag
      · rw [enqueueTrigger_eq_none h] at ht; cases ht
      · rw [CueLanding.ofByte_eq_none h] at hl; cases hl
      · rw [enqueueSource_eq_none h] at hs; cases hs
    · rfl

theorem checkEnqueue_eq_some (h : ¬f.Bad) {src : EnqueueSource} {mark : Bool} (hs : enqueueSource f = some (src, mark)) :
    checkEnqueue f = some (f.checked src mark) := by
  simp only [EnqueueFields.Bad, not_or, Nat.not_lt] at h
  obtain ⟨htag, ht, hl, -⟩ := h
  have hd : clampNat 0 64 f.deadline.toNat = min 64 f.deadline.toNat := (clampNat_eq_max (by decide) _).trans (Nat.zero_max _)
  rw [checkEnqueue, if_neg htag, enqueueTrigger_eq ht, CueLanding.ofByte_eq hl, hs, hd, EnqueueFields.checked]
  dsimp only
  rw [Bool.or_comm mark]

/-- What passed the check is in a cue's ranges (R135). -/
theorem checkEnqueue_ok {e : Enqueue} (h : checkEnqueue f = some e) :
    (1 ≤ e.tag ∧ e.tag ≤ 255) ∧ e.trigger.Ok = true ∧ e.deadline ≤ 64 := by
  unfold checkEnqueue at h
  split at h
  · cases h
  · next htag =>
    split at h
    · next ht _ _ =>
      cases h
      exact ⟨by bv_omega, enqueueTrigger_ok ht, clampNat_le (Nat.zero_le 64) _⟩
    · cases h

end

end Sys2Proof.Machine
end

section
/-! Proofs: the law of the Cue Queue, kept by every command (R135 to R137, R149). -/

namespace Sys2Proof.Machine

/-! ### The requests' work -/

/-- ENQUEUE CUE keeps the law of the queue: what it enters has its fields in range and a tag no cue holds (R140, R141). -/
theorem enqueueWork_ok (f : EnqueueFields) {s : State} (hs : s.cues.Ok) : (enqueueWork f s).1.cues.Ok := by
  unfold enqueueWork
  split
  · exact hs
  · next e he =>
    split
    · exact State.removeAll_ok hs
    · next htag =>
      split
      · exact hs
      · split
        · exact hs
        · refine CueQueue.enter_ok hs (by omega) (fun hm => htag ?_) (checkEnqueue_ok he)
          simpa using hm

/-- A load preempts every cue (R147). -/
theorem State.loadRecord_cuesOk {s : State} (hs : s.cues.Ok) (sc : Scene) (src : OriginSource) :
    (s.loadRecord sc src).cues.Ok :=
  State.removeAll_ok (by exact hs)

theorem loadSceneWork_cuesOk (a : Byte × Byte) {s : State} (hs : s.cues.Ok) : (loadSceneWork a s).1.cues.Ok := by
  unfold loadSceneWork
  dsimp only
  split
  · exact hs
  · split
    · exact State.loadRecord_cuesOk hs _ _
    · exact State.loadRecord_cuesOk hs _ _
    · exact hs
    · exact hs

theorem loadInlineWork_cuesOk (p : List Byte) {s : State} (hs : s.cues.Ok) : (loadInlineWork p s).1.cues.Ok := by
  unfold loadInlineWork
  split
  · exact hs
  · exact State.loadRecord_cuesOk hs _ _

/-- READ CUE RESULTS empties the list (R150). -/
theorem readResultsWork_cuesOk (a : Unit) {s : State} (hs : s.cues.Ok) : (readResultsWork a s).1.cues.Ok :=
  CueQueue.setResults_ok hs (Nat.zero_le _)

/-! ### Every command -/

theorem cuesAtReset_ok : cuesAtReset.Ok := by decide

/-- A dispatched request whose work keeps the law of the queue. -/
theorem dispatch_cuesOk {α : Type} {kind seq : Byte} {payload : List Byte} {parse : List Byte → Option α}
    {work : α → State → State × Reply} {s : State} (hs : s.cues.Ok) (hwork : ∀ a u, u.cues.Ok → (work a u).1.cues.Ok) :
    (dispatch kind seq payload parse work s).cues.Ok :=
  dispatch_keeps (P := fun s => s.cues.Ok) (fun _ _ h => h) hwork hs

/-- The law where the Cue Queue does not change. -/
theorem State.cuesOk_of_changesOnly {l : List Block} {s t : State} (hs : s.cues.Ok) (h : s.ChangesOnly l t)
    (hl : decide (Block.cues ∉ l) = true) : t.cues.Ok := by
  have e : t.cues = s.cues := h.2 .cues (of_decide_eq_true hl)
  rw [e]
  exact hs

/-- Every command keeps the law of the queue. -/
theorem exec_cuesOk {c : Instr} {s t : State} (hs : s.cues.Ok) (h : exec c s = .next t) : t.cues.Ok := by
  cases c with
  | powerOnReset _ | pinReset _ => cases h; exact cuesAtReset_ok
  | softReset _ =>
    cases h
    split
    · exact cuesAtReset_ok
    · exact hs
  | phraseStart =>
    cases h
    split
    · exact State.phraseStartAtHead_ok _ hs
    · exact hs
  | loadScene _ _ => cases h; exact dispatch_cuesOk hs fun a _ hu => loadSceneWork_cuesOk a hu
  | loadInlineScene _ _ => cases h; exact dispatch_cuesOk hs fun a _ hu => loadInlineWork_cuesOk a hu
  | enqueueCue _ _ => cases h; exact dispatch_cuesOk hs fun f _ hu => enqueueWork_ok f hu
  | fire _ _ => cases h; exact dispatch_cuesOk hs fireWork_ok
  | beat _ _ => cases h; exact dispatch_cuesOk hs beatWork_ok
  | cancelCue _ _ => cases h; exact dispatch_cuesOk hs cancelWork_ok
  | clearCues _ _ => cases h; exact dispatch_cuesOk (work := clearCuesWork) hs fun _ _ hu => State.removeAll_ok hu
  | readCueResults _ _ => cases h; exact dispatch_cuesOk hs fun a _ hu => readResultsWork_cuesOk a hu
  | _ => exact State.cuesOk_of_changesOnly hs (exec_changesOnly h) rfl

/-- Settles O54: the resets, a PHRASE START and eight requests change the queue, and each keeps its law. -/
theorem cueQueueLawKept : Obligations.CueQueueLawKept := by
  unfold Obligations.CueQueueLawKept
  exact fun s t hs h => step_keeps (P := fun s => s.cues.Ok) (fun _ _ h => h) (fun _ _ _ => exec_cuesOk) hs h

end Sys2Proof.Machine
end

section
/-! Proofs: landing and triggering at the head of the queue, and the events that reach it: BEAT, FIRE, PHRASE START (R138, R139,
R142 to R144). -/

namespace Sys2Proof.Machine

/-! ### One removal and a landing (R137, R139, R149, R151) -/

theorem CueQueue.armHead_eq (q : CueQueue) (rest : List Cue) :
    q.armHead rest = { q with counter := 0, queue := armedRest rest } := by
  cases rest <;> rfl

section
variable {s : State} (hr : s.cues.results.length ≤ 16) (c : Cue)
include hr

/-- All that recording one removal does. -/
theorem State.recordRemoval_eq (o : CueOutcome) :
    s.recordRemoval c o = { s with
      cues := { s.cues with results := expectedResults s.cues.results s.cues.counter o [c] }
      notices := noticesAfter s.notices o.source s.cues.results.length 1 } := by
  have hn : (s.recordRemoval c o).notices = noticesAfter s.notices o.source s.cues.results.length 1 :=
    State.foldRemoval_notices [c] o hr
  apply State.eq_of_fields <;> simp [← resultsAfter_eq_expectedResults [c] o hr, resultsAfter, hn]

/-- All that a landing does (R139). -/
theorem State.landHead_eq (rest : List Cue) (how : How) : s.landHead c rest how = s.landed c rest s.cues.counter how := by
  rw [State.landHead,
    State.recordRemoval_eq (s := { s with working := { scene := c.scene, origin := ⟨.cue c.tag, false⟩, follow := none } }) hr]
  dsimp only
  rw [CueQueue.armHead_eq]
  rfl

end

/-! ### The trigger (R138) -/

section
variable {s : State} {c : Cue} {rest : List Cue}

theorem State.triggerHead_atTrigger (hr : s.cues.results.length ≤ 16) (hl : c.landing = .atTrigger) :
    s.triggerHead c rest = (s.landed c rest s.cues.counter .trigger, .landed .trigger) := by
  rw [State.triggerHead, hl]
  dsimp only
  rw [State.landHead_eq hr]

theorem State.triggerHead_atPhrase (hl : c.landing = .atPhrase) :
    s.triggerHead c rest =
      ({ s with cues := { s.cues with queue := { c with state := .landing } :: rest } }, .nowLanding) := by
  rw [State.triggerHead, hl]

/-! ### BEAT (R142) -/

theorem raiseCounter_eq (n : Nat) : raiseCounter n = min 255 (n + 1) := by
  unfold raiseCounter
  split <;> omega

theorem beatWork_empty (hq : s.cues.queue = []) : beatWork () s = (s, .bare .nothing) := by
  rw [beatWork, hq]

/-- The counter that a BEAT leaves while its head stays (R136, R142). -/
def State.nextCount (s : State) : Nat := min 255 (s.cues.counter + 1)

/-- The state with a BEAT counted and nothing else done. -/
def State.counted (s : State) : State := { s with cues := { s.cues with counter := s.nextCount } }

section
variable (hq : s.cues.queue = c :: rest)
include hq

/-- A BEAT on a queue that holds a cue, with the counter it leaves in place. -/
theorem beatWork_cons : beatWork () s =
    if c.deadline ≠ 0 ∧ s.nextCount = c.deadline then
      (s.counted.landHead c rest .deadline, .ok [byteOfNat c.tag, byteOfNat s.nextCount, 2, 2])
    else if c.state = .armed ∧ c.trigger = .beats s.nextCount then
      ((s.counted.triggerHead c rest).1,
        .ok ([byteOfNat c.tag, byteOfNat s.nextCount] ++ (s.counted.triggerHead c rest).2.bytes))
    else (s.counted, .ok [byteOfNat c.tag, byteOfNat s.nextCount, 0, 0xFF]) := by
  rw [beatWork, hq]
  dsimp only
  rw [raiseCounter_eq]
  rfl

theorem beatWork_due (hr : s.cues.results.length ≤ 16) (hdue : c.deadline ≠ 0 ∧ s.nextCount = c.deadline) :
    beatWork () s =
      (s.landed c rest s.nextCount .deadline, .ok [byteOfNat c.tag, byteOfNat s.nextCount, 2, 2]) := by
  rw [beatWork_cons hq, if_pos hdue, State.landHead_eq (s := s.counted) hr]
  rfl

variable (hdue : ¬(c.deadline ≠ 0 ∧ s.nextCount = c.deadline))
include hdue

theorem beatWork_waits (hstruck : ¬(c.state = .armed ∧ c.trigger = .beats s.nextCount)) :
    beatWork () s = (s.counted, .ok [byteOfNat c.tag, byteOfNat s.nextCount, 0, 0xFF]) := by
  rw [beatWork_cons hq, if_neg hdue, if_neg hstruck]

variable (hstruck : c.state = .armed ∧ c.trigger = .beats s.nextCount)
include hstruck

theorem beatWork_lands (hr : s.cues.results.length ≤ 16) (hl : c.landing = .atTrigger) :
    beatWork () s =
      (s.landed c rest s.nextCount .trigger, .ok [byteOfNat c.tag, byteOfNat s.nextCount, 2, 0]) := by
  rw [beatWork_cons hq, if_neg hdue, if_pos hstruck, State.triggerHead_atTrigger (s := s.counted) hr hl]
  rfl

theorem beatWork_nowLanding (hl : c.landing = .atPhrase) :
    beatWork () s =
      ({ s with cues := { s.cues with counter := s.nextCount, queue := { c with state := .landing } :: rest } },
        .ok [byteOfNat c.tag, byteOfNat s.nextCount, 1, 0xFF]) := by
  rw [beatWork_cons hq, if_neg hdue, if_pos hstruck, State.triggerHead_atPhrase hl]
  rfl

end

/-! ### FIRE (R143) -/

theorem fireWork_empty (hq : s.cues.queue = []) : fireWork () s = (s, .bare .nothing) := by
  rw [fireWork, hq]

section
variable (hq : s.cues.queue = c :: rest)
include hq

theorem fireWork_landing (hr : s.cues.results.length ≤ 16) (hst : c.state = .landing) :
    fireWork () s = (s.landed c rest s.cues.counter .forced, .ok [byteOfNat c.tag, 2, 3]) := by
  rw [fireWork, hq]
  dsimp only
  rw [if_pos hst, State.landHead_eq hr]
  rfl

/-- FIRE triggers an ARMED head. -/
theorem fireWork_triggers (hst : c.state = .armed) {t : State} {a : HeadAction} (ht : s.triggerHead c rest = (t, a)) :
    fireWork () s = (t, .ok (byteOfNat c.tag :: a.bytes)) := by
  rw [fireWork, hq]
  dsimp only
  rw [if_neg (by rw [hst]; decide), ht]

theorem fireWork_lands (hst : c.state = .armed) (hr : s.cues.results.length ≤ 16) (hl : c.landing = .atTrigger) :
    fireWork () s = (s.landed c rest s.cues.counter .trigger, .ok [byteOfNat c.tag, 2, 0]) :=
  fireWork_triggers hq hst (State.triggerHead_atTrigger hr hl)

theorem fireWork_nowLanding (hst : c.state = .armed) (hl : c.landing = .atPhrase) :
    fireWork () s = ({ s with cues := { s.cues with queue := { c with state := .landing } :: rest } },
      .ok [byteOfNat c.tag, 1, 0xFF]) :=
  fireWork_triggers hq hst (State.triggerHead_atPhrase hl)

/-! ### PHRASE START (R144) -/

theorem State.phraseStartAtHead_landing (hr : s.cues.results.length ≤ 16) (hst : c.state = .landing) :
    s.phraseStartAtHead = s.landed c rest s.cues.counter .phrase := by
  rw [State.phraseStartAtHead, hq]
  dsimp only
  rw [if_pos hst, State.landHead_eq hr]

theorem State.phraseStartAtHead_triggers (hst : c.state = .armed) (hp : c.trigger = .phrase) {t : State} {a : HeadAction}
    (ht : s.triggerHead c rest = (t, a)) : s.phraseStartAtHead = t := by
  rw [State.phraseStartAtHead, hq]
  dsimp only
  rw [if_neg (by rw [hst]; decide), if_pos hp, ht]

theorem State.phraseStartAtHead_keeps (hst : c.state = .armed) (ht : c.trigger ≠ .phrase) : s.phraseStartAtHead = s := by
  rw [State.phraseStartAtHead, hq]
  dsimp only
  rw [if_neg (by rw [hst]; decide), if_neg ht]

end

theorem State.phraseStartAtHead_empty (hq : s.cues.queue = []) : s.phraseStartAtHead = s := by
  rw [State.phraseStartAtHead, hq]

end

/-! ### The commands -/

theorem exec_beat (seq : Byte) (p : List Byte) (s : State) :
    exec (.beat seq p) s = .next (dispatch 0x46 seq p noPayload beatWork s) := rfl
theorem exec_fire (seq : Byte) (p : List Byte) (s : State) :
    exec (.fire seq p) s = .next (dispatch 0x41 seq p noPayload fireWork s) := rfl

/-- The state once the queue has taken a PHRASE START that waited (log 8). -/
def State.phraseStartTaken (s : State) : State :=
  { s with tracker := { s.tracker with phraseStartsAwaiting := s.tracker.phraseStartsAwaiting - 1 } }

theorem exec_phraseStart {s : State} (h : 0 < s.tracker.phraseStartsAwaiting) :
    exec .phraseStart s = .next s.phraseStartTaken.phraseStartAtHead :=
  congrArg Host.Outcome.next (if_pos h)

theorem exec_phraseStart_none {s : State} (h : s.tracker.phraseStartsAwaiting = 0) : exec .phraseStart s = .next s :=
  congrArg Host.Outcome.next (if_neg (by omega))

/-- Settles O47: the empty queue, and the four cases of a beat at the head. -/
theorem beatsCount : Obligations.BeatsCount := by
  unfold Obligations.BeatsCount
  intro seq rest s ⟨_, _, _, _, _, _, _, hr⟩ h
  refine ⟨fun hq => ?_, fun c cs hq => ⟨fun hdue => ?_, fun hdue hstruck hl => ?_, fun hdue hstruck hl => ?_,
    fun hdue hstruck => ?_⟩⟩
  · exact exec_answers (exec_beat ..) h s (.bare .nothing) rfl (beatWork_empty hq)
  · exact exec_answers (exec_beat ..) h (s.landed c cs s.nextCount .deadline) (.ok _) rfl (beatWork_due hq hr hdue)
  · exact exec_answers (exec_beat ..) h (s.landed c cs s.nextCount .trigger) (.ok _) rfl (beatWork_lands hq hdue hstruck hr hl)
  · exact exec_answers (exec_beat ..) h
      { s with cues := { s.cues with counter := s.nextCount, queue := { c with state := .landing } :: cs } } (.ok _) rfl
      (beatWork_nowLanding hq hdue hstruck hl)
  · exact exec_answers (exec_beat ..) h s.counted (.ok _) rfl (beatWork_waits hq hdue hstruck)

/-- Settles O48: each event at an empty queue, at a LANDING head and at an ARMED one. -/
theorem fireAndPhraseStart : Obligations.FireAndPhraseStart := by
  unfold Obligations.FireAndPhraseStart
  refine ⟨fun seq rest s ⟨_, _, _, _, _, _, _, hr⟩ h => ⟨fun hq => ?_, fun c cs hq => ⟨fun hst => ?_, fun hst hl => ?_,
      fun hst hl => ?_⟩⟩, fun s hw => exec_phraseStart_none hw,
    fun s ⟨_, _, _, _, _, _, _, hr⟩ hw => ⟨fun hq => ?_, fun c cs hq => ⟨fun hst => ?_, fun hst ht hl => ?_,
      fun hst ht hl => ?_, fun hst ht => ?_⟩⟩⟩
  · exact exec_answers (exec_fire ..) h s (.bare .nothing) rfl (fireWork_empty hq)
  · exact exec_answers (exec_fire ..) h (s.landed c cs s.cues.counter .forced) (.ok _) rfl (fireWork_landing hq hr hst)
  · exact exec_answers (exec_fire ..) h (s.landed c cs s.cues.counter .trigger) (.ok _) rfl
      (fireWork_lands hq hst hr hl)
  · exact exec_answers (exec_fire ..) h { s with cues := { s.cues with queue := { c with state := .landing } :: cs } } (.ok _) rfl
      (fireWork_nowLanding hq hst hl)
  · exact (exec_phraseStart hw).trans (congrArg _ (State.phraseStartAtHead_empty hq))
  · exact (exec_phraseStart hw).trans (congrArg _ (State.phraseStartAtHead_landing hq hr hst))
  · exact (exec_phraseStart hw).trans (congrArg _
      (State.phraseStartAtHead_triggers (s := s.phraseStartTaken) hq hst ht (State.triggerHead_atTrigger hr hl)))
  · exact (exec_phraseStart hw).trans (congrArg _
      (State.phraseStartAtHead_triggers (s := s.phraseStartTaken) hq hst ht (State.triggerHead_atPhrase hl)))
  · exact (exec_phraseStart hw).trans (congrArg _ (State.phraseStartAtHead_keeps hq hst ht))

end Sys2Proof.Machine
end

section
/-! Proofs: CANCEL CUE (R145). -/

namespace Sys2Proof.Machine

/-! ### The cue of a tag (R135) -/

/-- Of cues of distinct tags, those before one have other tags. -/
theorem tag_ne_of_mem_before {before after : List Cue} {c : Cue} (h : ((before ++ c :: after).map (·.tag)).Nodup) :
    ∀ d ∈ before, d.tag ≠ c.tag := by
  rw [List.map_append, List.map_cons, List.nodup_append] at h
  obtain ⟨-, -, hne⟩ := h
  exact fun d hd => hne _ (List.mem_map_of_mem hd) _ List.mem_cons_self

section
variable {before after : List Cue} {c : Cue} {tag : Nat} (htag : c.tag = tag) (hb : ∀ d ∈ before, d.tag ≠ c.tag)
include htag hb

theorem find?_tag : (before ++ c :: after).find? (·.tag = tag) = some c := by
  subst htag
  rw [List.find?_append, List.find?_eq_none.mpr (by simpa using hb), Option.none_or]
  exact List.find?_cons_of_pos (decide_eq_true rfl)

/-- The queue once the cue of a tag has left: a removed head arms the next with counter 0 (R137, R145). -/
theorem CueQueue.withoutTag_eq {q : CueQueue} (hq : q.queue = before ++ c :: after) :
    q.withoutTag tag = { q with
      queue := if before = [] then armedRest after else before ++ after
      counter := if before = [] then 0 else q.counter } := by
  subst htag
  cases before with
  | nil =>
    rw [CueQueue.withoutTag, hq]
    dsimp only [List.nil_append]
    rw [if_pos rfl, CueQueue.armHead_eq]
    rfl
  | cons d ds =>
    obtain ⟨hd, hds⟩ := List.forall_mem_cons.mp hb
    have herase : (ds ++ c :: after).eraseP (·.tag = c.tag) = ds ++ after := by
      rw [List.eraseP_append_right _ (by simpa using hds), List.eraseP_cons_of_pos (by simp)]
    rw [CueQueue.withoutTag, hq]
    dsimp only [List.cons_append]
    rw [if_neg hd, herase]
    rfl

end

theorem armedRest_length (cs : List Cue) : (armedRest cs).length = cs.length := by
  cases cs <;> rfl

/-! ### The request -/

section
variable {s : State} {t : Byte}

theorem cancelWork_badField (ht : t = 0) : cancelWork t s = (s, .bare .badField) := if_pos ht

theorem cancelWork_notFound (ht : t ≠ 0) (hm : t.toNat ∉ s.cues.queue.map (·.tag)) :
    cancelWork t s = (s, .bare .notFound) := by
  have hfind : s.cues.queue.find? (·.tag = t.toNat) = none :=
    List.find?_eq_none.mpr fun c hc he => hm (of_decide_eq_true he ▸ List.mem_map_of_mem hc)
  rw [cancelWork, if_neg ht, hfind]

/-- The state once CANCEL CUE has removed the cue `c` between `before` and `after` (R145). -/
def State.cancelled (s : State) (before : List Cue) (c : Cue) (after : List Cue) : State :=
  { s with
    cues := { queue := if before = [] then armedRest after else before ++ after
              counter := if before = [] then 0 else s.cues.counter
              results := expectedResults s.cues.results s.cues.counter .cancelled [c] }
    notices := noticesAfter s.notices .cueDiscarded s.cues.results.length 1 }

theorem State.cancelled_queue_length (s : State) (before : List Cue) (c : Cue) (after : List Cue) :
    (s.cancelled before c after).cues.queue.length = before.length + after.length := by
  cases before with
  | nil => simp [State.cancelled, armedRest_length]
  | cons d ds => simp [State.cancelled, Nat.add_right_comm]

theorem cancelWork_removes (hs : s.cues.Ok) {before after : List Cue} {c : Cue} (hq : s.cues.queue = before ++ c :: after)
    (htag : c.tag = t.toNat) (ht : t ≠ 0) :
    cancelWork t s = (s.cancelled before c after, .ok [t, c.state.byte, byteOfNat (before.length + after.length)]) := by
  obtain ⟨-, hnodup, -, -, -, -, -, hr⟩ := hs
  have hb := tag_ne_of_mem_before (hq ▸ hnodup)
  have hcues : (s.recordRemoval c .cancelled).cues.withoutTag t.toNat = (s.cancelled before c after).cues := by
    rw [State.recordRemoval_eq hr, CueQueue.withoutTag_eq htag hb (by exact hq)]
    rfl
  rw [cancelWork, if_neg ht, hq, find?_tag htag hb]
  dsimp only
  rw [hcues, State.cancelled_queue_length, State.recordRemoval_eq hr]
  rfl

end

theorem exec_cancelCue (seq : Byte) (p : List Byte) (s : State) :
    exec (.cancelCue seq p) s = .next (dispatch 0x42 seq p onePayload cancelWork s) := rfl

/-- Settles O49: tag 0, a tag no cue has, and the one cue of the tag. -/
theorem cuesCancelled : Obligations.CuesCancelled := by
  unfold Obligations.CuesCancelled
  refine fun seq t rest s hs h => ⟨fun ht => ?_, fun ht hm => ?_, fun before c after hq htag ht => ?_⟩
  · exact exec_answers (exec_cancelCue ..) h s (.bare .badField) rfl (cancelWork_badField ht)
  · exact exec_answers (exec_cancelCue ..) h s (.bare .notFound) rfl (cancelWork_notFound ht hm)
  · refine (exec_answers (exec_cancelCue ..) h (s.cancelled before c after)
      (.ok [t, c.state.byte, byteOfNat (before.length + after.length)]) rfl
      (cancelWork_removes (s := { s with link := { s.link with fifo := rest } }) hs hq htag ht)).trans ?_
    cases c.state <;> rfl

end Sys2Proof.Machine
end

section
/-! Proofs: ENQUEUE CUE (R140, R141). -/

namespace Sys2Proof.Machine

/-! ### The source's scene (R140) -/

/-- The link does not decide what a source gives. -/
theorem State.enqueueScene_link (s : State) (l : Link) (src : EnqueueSource) :
    State.enqueueScene { s with link := l } src = s.enqueueScene src := by
  cases src <;> rfl

section
variable {s : State} {b i : Nat}

theorem State.enqueueScene_overlay {r : Scene} (hr : s.readSlot b i = .overlay r) :
    s.enqueueScene (.slot b i) = .ok (r, .slot b i) := by
  rw [State.enqueueScene, hr]

theorem State.enqueueScene_store {r : Scene} (hr : s.readSlot b i = .store r) :
    s.enqueueScene (.slot b i) = .ok (r, .slot b i) := by
  rw [State.enqueueScene, hr]

theorem State.enqueueScene_busy (hr : s.readSlot b i = .busy) : s.enqueueScene (.slot b i) = .error .busy := by
  rw [State.enqueueScene, hr]

theorem State.enqueueScene_notValid (hr : s.readSlot b i = .notValid) : s.enqueueScene (.slot b i) = .error .notValid := by
  rw [State.enqueueScene, hr]

end

/-! ### The request's work -/

/-- A cue enters at the back, armed where it becomes the head; an empty queue has counter 0 already (R136, R137, R140). -/
theorem CueQueue.enter_eq {q : CueQueue} (h0 : q.queue = [] → q.counter = 0) (c : Cue) :
    q.enter c = { q with queue := q.queue ++ [{ c with state := if q.queue.length = 0 then .armed else .queued }] } := by
  obtain ⟨queue, counter, results⟩ := q
  cases queue with
  | nil => rw [CueQueue.enter, h0 rfl]; rfl
  | cons d ds => rfl

/-- The cue a checked request enters in a given state. -/
def Enqueue.cue (e : Enqueue) (sc : Scene) (src : CueSource) (state : CueState) : Cue :=
  ⟨e.tag, sc, src, e.trigger, e.landing, e.deadline, state⟩

section
variable {f : EnqueueFields} {s : State}

theorem enqueueWork_badField (hc : checkEnqueue f = none) : enqueueWork f s = (s, .bare .badField) := by
  rw [enqueueWork, hc]

section
variable {e : Enqueue} (hc : checkEnqueue f = some e)
include hc

/-- A tag that a cue holds aborts the queue (R141). -/
theorem enqueueWork_aborts (hr : s.cues.results.length ≤ 16) (hm : e.tag ∈ s.cues.queue.map (·.tag)) :
    enqueueWork f s = ({ s with
      cues := { queue := [], counter := 0,
                results := expectedResults s.cues.results s.cues.counter .queueAbort s.cues.queue }
      notices := noticesAfter s.notices .cueDiscarded s.cues.results.length s.cues.queue.length },
      ⟨.duplicateTag, [byteOfNat s.cues.queue.length]⟩) := by
  rw [enqueueWork, hc]
  dsimp only
  rw [if_pos (by simpa using hm), State.removeAll_eq hr]
  rfl

variable (hm : e.tag ∉ s.cues.queue.map (·.tag))
include hm

theorem enqueueWork_full (hl : s.cues.queue.length = 16) : enqueueWork f s = (s, .bare .queueFull) := by
  rw [enqueueWork, hc]
  dsimp only
  rw [if_neg (by simpa using hm), if_pos (by omega)]

variable (hl : s.cues.queue.length < 16)
include hl

theorem enqueueWork_refuses {c : ReplyCode} (hsc : s.enqueueScene e.source = .error c) : enqueueWork f s = (s, .bare c) := by
  rw [enqueueWork, hc]
  dsimp only
  rw [if_neg (by simpa using hm), if_neg (by omega), hsc]

/-- The cue enters at the back of a queue with room (R140). -/
theorem enqueueWork_enters (h0 : s.cues.queue = [] → s.cues.counter = 0) {sc : Scene} {src : CueSource}
    (hsc : s.enqueueScene e.source = .ok (sc, src)) :
    enqueueWork f s = ({ s with cues := { s.cues with
        queue := s.cues.queue ++ [e.cue sc src (if s.cues.queue.length = 0 then .armed else .queued)] } },
      .ok [byteOfNat e.tag, byteOfNat (s.cues.queue.length + 1), if s.cues.queue.length = 0 then 1 else 0,
        byteOfNat (s.cues.queue.length + 1), markByte e.clamped]) := by
  rw [enqueueWork, hc]
  dsimp only
  rw [if_neg (by simpa using hm), if_neg (by omega), hsc]
  dsimp only
  rw [CueQueue.enter_eq h0]
  by_cases hq : s.cues.queue = [] <;> simp [hq, Enqueue.cue, CueState.byte]

end
end

/-! ### The request -/

theorem exec_enqueueCue (seq : Byte) (p : List Byte) (s : State) :
    exec (.enqueueCue seq p) s = .next (dispatch 0x40 seq p enqueuePayload enqueueWork s) := rfl

/-- The payload that carries the fields (9.5). -/
abbrev EnqueueFields.payload (f : EnqueueFields) : List Byte :=
  [f.tag, f.source, f.bank, f.slot, f.trigger, f.count, f.landing, f.deadline] ++ f.record

/-- A payload of the length its source byte asks for gives the fields back. -/
theorem enqueuePayload_payload {f : EnqueueFields} (h0 : f.source = 0 → f.record.length = 0)
    (h1 : f.source = 1 → f.record.length = 58)
    (h2 : f.source ≠ 0 → f.source ≠ 1 → f.record.length = 0 ∨ f.record.length = 58) :
    enqueuePayload f.payload = some f := by
  refine if_pos ?_
  by_cases hf0 : f.source = 0
  · exact .inl ⟨hf0, h0 hf0⟩
  · by_cases hf1 : f.source = 1
    · exact .inr (.inl ⟨hf1, h1 hf1⟩)
    · exact .inr (.inr ⟨hf0, hf1, h2 hf0 hf1⟩)

section
variable {seq : Byte} {f : EnqueueFields} {rest : List FifoEntry} {s : State} {src : EnqueueSource} {mark : Bool}
  (h : s.Takes (.frame 0x40 seq f.payload) rest) (hp : enqueuePayload f.payload = some f)
  (hc : checkEnqueue f = some (f.checked src mark)) (hm : f.tag.toNat ∉ s.cues.queue.map (·.tag))
  (hl : s.cues.queue.length < 16)
include h hp hc hm hl

/-- ENQUEUE CUE with a source that gives no record changes nothing. -/
theorem enqueueCue_refuses {c : ReplyCode} (hsc : s.enqueueScene src = .error c) :
    exec (.enqueueCue seq f.payload) s = .next (s.answered rest (replyTo 0x40 seq c [])) :=
  exec_answers (exec_enqueueCue ..) h s (.bare c) hp
    (enqueueWork_refuses (s := { s with link := { s.link with fifo := rest } }) hc hm hl
      ((s.enqueueScene_link _ src).trans hsc))

/-- ENQUEUE CUE answered OK. -/
theorem enqueueCue_enters (h0 : s.cues.queue = [] → s.cues.counter = 0) {sc : Scene} {from_ : CueSource}
    (hsc : s.enqueueScene src = .ok (sc, from_)) :
    exec (.enqueueCue seq f.payload) s = .next ({ s with cues := { s.cues with
        queue := s.cues.queue ++
          [(f.checked src mark).cue sc from_ (if s.cues.queue.length = 0 then .armed else .queued)] } }.answered rest
      (replyTo 0x40 seq .ok [f.tag, byteOfNat (s.cues.queue.length + 1), if s.cues.queue.length = 0 then 1 else 0,
        byteOfNat (s.cues.queue.length + 1), markByte (f.checked src mark).clamped])) := by
  have hw := enqueueWork_enters (s := { s with link := { s.link with fifo := rest } }) hc hm hl h0
    ((s.enqueueScene_link _ src).trans hsc)
  have htag : byteOfNat (f.checked src mark).tag = f.tag := by simp [EnqueueFields.checked, byteOfNat]
  rw [htag] at hw
  exact exec_answers (exec_enqueueCue ..) h
    { s with cues := { s.cues with queue := s.cues.queue ++
        [(f.checked src mark).cue sc from_ (if s.cues.queue.length = 0 then .armed else .queued)] } } (.ok _) hp hw

end

/-- Settles O46: the checks in their order, and the cue entered from the record or from the slot. -/
theorem cuesEnqueued : Obligations.CuesEnqueued := by
  unfold Obligations.CuesEnqueued
  intro seq f rest s ⟨_, _, _, _, _, _, hcounter, hr⟩ payload h0 h1 h2 h refused held badSource bad clash count deadline entered
  have hp : enqueuePayload f.payload = some f := enqueuePayload_payload h0 h1 h2
  have hchecked (hb : ¬f.Bad) : ∃ src mark, checkEnqueue f = some (f.checked src mark) := by
    obtain ⟨src, mark, hs⟩ := enqueueSource_eq_some fun hs => hb (.inr (.inr (.inr hs)))
    exact ⟨src, mark, checkEnqueue_eq_some hb hs⟩
  refine ⟨fun hb => ?_, fun hb hm => ?_, fun hb hm hl => ?_, fun hb hm hl => ⟨fun sc hf hsc => ?_, fun hf => ?_⟩⟩
  · exact exec_answers (exec_enqueueCue ..) h s (.bare .badField) hp (enqueueWork_badField (checkEnqueue_eq_none hb))
  · obtain ⟨src, mark, hc⟩ := hchecked hb
    exact exec_answers (exec_enqueueCue ..) h
      { s with
        cues := { queue := [], counter := 0,
                  results := expectedResults s.cues.results s.cues.counter .queueAbort s.cues.queue }
        notices := noticesAfter s.notices .cueDiscarded s.cues.results.length s.cues.queue.length }
      ⟨.duplicateTag, _⟩ hp (enqueueWork_aborts hc hr hm)
  · obtain ⟨src, mark, hc⟩ := hchecked hb
    exact exec_answers (exec_enqueueCue ..) h s (.bare .queueFull) hp (enqueueWork_full hc hm hl)
  · exact enqueueCue_enters h hp (checkEnqueue_eq_some hb (enqueueSource_inline hf hsc)) hm hl hcounter rfl
  · have hslot : ¬(7 < f.bank.toNat ∨ 7 < f.slot.toNat) := fun hout => hb (.inr (.inr (.inr (.inr (.inl ⟨hf, hout⟩)))))
    have hc : checkEnqueue f = some (f.checked (.slot f.bank.toNat f.slot.toNat) false) :=
      checkEnqueue_eq_some hb (enqueueSource_slot hf (by omega) (by omega))
    refine ⟨fun hmap hrec => ?_, fun r hmap hrec => ?_, fun hmap hbusy => ?_, fun hmap hbusy hst => ?_,
      fun r hmap hbusy hrec => ?_⟩
    · exact enqueueCue_refuses h hp hc hm hl (State.enqueueScene_notValid (State.readSlot_of_overlay_empty hmap hrec))
    · exact enqueueCue_enters h hp hc hm hl hcounter (State.enqueueScene_overlay (State.readSlot_of_overlay hmap hrec))
    · exact enqueueCue_refuses h hp hc hm hl (State.enqueueScene_busy (State.readSlot_of_busy hmap hbusy))
    · exact enqueueCue_refuses h hp hc hm hl (State.enqueueScene_notValid (State.readSlot_of_store_notValid hmap hbusy hst))
    · exact enqueueCue_enters h hp hc hm hl hcounter (State.enqueueScene_store (State.readSlot_of_store hmap hbusy hrec))

end Sys2Proof.Machine
end

section
/-! Proofs: the events of the Scene Store's operation, said from its record (R154, R155, R158 to R161). -/

namespace Sys2Proof.Machine

/-! ### The slots (R154) -/

theorem SceneStore.setSlot_array (st : SceneStore) (b i : Nat) (x : Slot) {j : Nat} (hj : j < 64) :
    (st.setSlot b i x).array[j] = if j = 8 * b + i then x else st.array[j] := by
  simp only [SceneStore.setSlot, slotIndex, Vector.getElem_setIfInBounds, eq_comm (a := j)]

theorem SceneStore.setSlot_table (st : SceneStore) (b i : Nat) (x : Slot) {j : Nat} (hj : j < 64) :
    (st.setSlot b i x).table[j] = if j = 8 * b + i then x.state else st.table[j] := by
  simp only [SceneStore.setSlot, slotIndex, Vector.getElem_setIfInBounds, eq_comm (a := j)]

/-- A slot is in a bank's first `k + 1` where it is in its first `k` or is the one that follows them. -/
theorem blank_if_succ {α : Type} {j b k : Nat} (x y : α) :
    (if j = 8 * b + k then x else if 8 * b ≤ j ∧ j < 8 * b + k then x else y) =
      if 8 * b ≤ j ∧ j < 8 * b + (k + 1) then x else y := by
  split_ifs <;> first | rfl | omega

/-- Blanking a bank's first `k` slots. -/
theorem SceneStore.foldl_setSlot_blank (st : SceneStore) (b k : Nat) {j : Nat} (hj : j < 64) :
    ((List.range k).foldl (fun acc i => acc.setSlot b i .blank) st).array[j] =
        (if 8 * b ≤ j ∧ j < 8 * b + k then .blank else st.array[j]) ∧
      ((List.range k).foldl (fun acc i => acc.setSlot b i .blank) st).table[j] =
        (if 8 * b ≤ j ∧ j < 8 * b + k then .blank else st.table[j]) := by
  induction k with
  | zero =>
    have hno : ¬(8 * b ≤ j ∧ j < 8 * b + 0) := by omega
    rw [if_neg hno, if_neg hno]
    exact ⟨rfl, rfl⟩
  | succ k ih =>
    obtain ⟨harray, htable⟩ := ih
    rw [List.range_succ, List.foldl_append, List.foldl_cons, List.foldl_nil, setSlot_array _ _ _ _ hj,
      setSlot_table _ _ _ _ hj, harray, htable]
    exact ⟨blank_if_succ .., blank_if_succ ..⟩

/-- An erased bank's eight slots read BLANK in array and table, and no other slot changes (R159). -/
theorem SceneStore.blankBank_slots (st : SceneStore) (b : Nat) {j : Nat} (hj : j < 64) :
    (st.blankBank b).array[j] = (if j / 8 = b then .blank else st.array[j]) ∧
      (st.blankBank b).table[j] = if j / 8 = b then .blank else st.table[j] := by
  have hbank : (8 * b ≤ j ∧ j < 8 * b + 8) ↔ j / 8 = b := by omega
  have h := st.foldl_setSlot_blank b 8 hj
  simp only [hbank] at h
  exact h

theorem SceneStore.blankBank_frame (st : SceneStore) (b : Nat) :
    st.blankBank b = { st with array := (st.blankBank b).array, table := (st.blankBank b).table } :=
  List.foldlRecOn (motive := fun r : SceneStore => r = { st with array := r.array, table := r.table }) _ _ rfl
    fun acc h i _ => by rw [h]; rfl

/-! ### The operation in flight (R155) -/

theorem SceneStore.inFlight_iff {st : SceneStore} :
    st.inFlight = true ↔ ∃ o, st.op = some o ∧ o.status = .inFlight := by
  unfold SceneStore.inFlight
  cases st.op <;> simp

theorem SceneStore.current_eq_some_iff {st : SceneStore} {o : StoreOp} :
    st.current = some o ↔ st.op = some o ∧ o.status = .inFlight := by
  unfold SceneStore.current
  cases st.op with
  | none => simp
  | some o' =>
    dsimp only
    rw [Option.ite_none_right_eq_some, Option.some_inj, and_comm]
    exact and_congr_right fun e => by rw [e]

theorem SceneStore.current_eq_none {st : SceneStore} (h : st.inFlight = false) : st.current = none := by
  refine Option.eq_none_iff_forall_ne_some.mpr fun o ho => ?_
  have hin : st.inFlight = true := inFlight_iff.mpr ⟨o, current_eq_some_iff.mp ho⟩
  exact Bool.false_ne_true (h ▸ hin)

/-- Every phase but an erase's PULSE awaits the voltage (R158, R159). -/
theorem StoreWork.needsVoltage_iff {w : StoreWork} : w.needsVoltage = true ↔ ∀ b n, w ≠ .erase b (.pulse n) := by
  rcases w with ⟨b, i, record, stage⟩ | ⟨b, stage⟩
  · simp [needsVoltage]
  · cases stage <;> simp [needsVoltage]

/-! ### Time counted on the operation (R155, R160, log 7) -/

/-- The record once `d` microseconds have been counted and no pulse is in progress. -/
def StoreOp.ended (o : StoreOp) (d : Nat) : StoreOp :=
  { o with elapsedMicros := o.elapsedMicros + d, pulsing := false, pulseMicros := 0 }

theorem StoreOp.cut_pass (o : StoreOp) (micros : Nat) : (o.pass micros).cut = o.ended (o.counted micros) := by
  rw [pass_eq_counted]
  rfl

theorem StoreOp.counted_waiting {o : StoreOp} (hw : o.work.needsVoltage = true) (hp : o.pulsing = false) (micros : Nat) :
    o.counted micros = micros := by
  unfold counted
  split
  · next hwork => rw [hwork] at hw; cases hw
  · exact if_neg (by simp [hp])

/-- A write pulse and its verify take 120 µs, less what has been counted of them (R158). -/
theorem StoreOp.counted_writePulse {o : StoreOp} (hw : o.work.needsVoltage = true) (hp : o.pulsing = true) :
    o.counted 120 = 120 - o.pulseMicros := by
  unfold counted
  split
  · next hwork => rw [hwork] at hw; cases hw
  · rw [if_pos hp]
    omega

/-- An erase pulse and its verify take 10.5 ms, less what has been counted of them (R159). -/
theorem StoreOp.counted_erasePulse {o : StoreOp} {b n : Nat} (hw : o.work = .erase b (.pulse n)) :
    o.counted 10500 = 10500 - o.pulseMicros := by
  unfold counted
  rw [hw]
  dsimp only
  omega

/-- Up to the timer's bound the event is taken, on the record with the time counted (R160). -/
theorem State.passTime_goes {s : State} {o : StoreOp} {micros : Nat} (event : StoreOp → State)
    (h : o.elapsedMicros + o.counted micros ≤ 1500000) : s.passTime o micros event = event (o.pass micros) := by
  refine if_neg ?_
  rw [StoreOp.pass_eq_counted]
  exact Nat.not_lt.mpr h

/-- Past the timer's bound the event finds the operation abandoned at the bound (R160). -/
theorem State.passTime_expires {s : State} {o : StoreOp} {micros : Nat} (event : StoreOp → State)
    (h : 1500000 < o.elapsedMicros + o.counted micros) :
    s.passTime o micros event = s.abandoned o .timer s.store.supplyHigh 1500000 := by
  rw [State.passTime, if_pos (by rw [StoreOp.pass_eq_counted]; exact h)]
  exact State.failOp_eq_abandoned s o .timer timerMicros

/-- What an operation that fails keeps of its record does not depend on the pulse that is cut (R160). -/
theorem State.failOp_pass (s : State) (o : StoreOp) (micros : Nat) (c : FailureCause) :
    s.failOp (o.pass micros) c = s.abandoned o c s.store.supplyHigh (o.elapsedMicros + o.counted micros) := by
  rw [StoreOp.pass_eq_counted]
  exact State.failOp_eq_abandoned s { o with pulseMicros := _ } c _

/-! ### The events, with an operation in flight and with none (R158 to R160) -/

section
variable {s : State} {o : StoreOp}

section
variable (h : s.store.op = some o) (hf : o.status = .inFlight)
include h hf

theorem programmingVoltageReady_taken (hw : o.work.needsVoltage = true) (hp : o.pulsing = false) (micros : Nat) :
    exec (.programmingVoltageReady micros) s = .next (s.passTime o micros s.startPulse) := by
  change execProgrammingVoltageReady micros s = _
  simp [execProgrammingVoltageReady, SceneStore.current_eq_some_iff.mpr ⟨h, hf⟩, hw, hp]

theorem storePulseVerify_taken (hw : o.work.needsVoltage = true) (hp : o.pulsing = true) (verified : Bool) :
    exec (.storePulseVerify verified) s = .next (s.passTime o 120 (s.endPulse verified)) := by
  change execStorePulseVerify verified s = _
  simp [execStorePulseVerify, SceneStore.current_eq_some_iff.mpr ⟨h, hf⟩, hw, hp]

theorem erasePulseVerify_taken {b n : Nat} (hw : o.work = .erase b (.pulse n)) (erased : Bool) :
    exec (.erasePulseVerify erased) s = .next (s.passTime o 10500 (s.endErasePulse erased b n)) := by
  change execErasePulseVerify erased s = _
  simp [execErasePulseVerify, SceneStore.current_eq_some_iff.mpr ⟨h, hf⟩, hw]

theorem timerExpiry_taken : exec .timerExpiry s = .next (s.abandoned o .timer s.store.supplyHigh 1500000) := by
  change execTimerExpiry s = _
  rw [execTimerExpiry, SceneStore.current_eq_some_iff.mpr ⟨h, hf⟩]
  exact congrArg _ (State.failOp_eq_abandoned s o .timer timerMicros)

theorem supplyLoss_taken (micros : Nat) :
    exec (.supplyLoss micros) s = .next
      (State.passTime { s with store := { s.store with supplyHigh := false } } o micros fun o' =>
        State.failOp { s with store := { s.store with supplyHigh := false } } o' .supply) := by
  change execSupplyLoss micros s = _
  simp [execSupplyLoss, SceneStore.current_eq_some_iff.mpr ⟨h, hf⟩]

end

theorem timerExpiry_idle (h : s.store.inFlight = false) : exec .timerExpiry s = .next s := by
  change execTimerExpiry s = _
  rw [execTimerExpiry, SceneStore.current_eq_none h]

theorem supplyLoss_idle (h : s.store.inFlight = false) (micros : Nat) :
    exec (.supplyLoss micros) s = .next { s with store := { s.store with supplyHigh := false } } := by
  change execSupplyLoss micros s = _
  rw [execSupplyLoss, SceneStore.current_eq_none h]

end

end Sys2Proof.Machine
end

section
/-! Proofs: timer expiry and supply loss (R160, R161). -/

namespace Sys2Proof.Machine

/-- Settles O52: each event is taken from the record, and goes on or finds the operation abandoned by the time counted. -/
theorem storeAbandonment : Obligations.StoreAbandonment := by
  unfold Obligations.StoreAbandonment
  intro s micros verified st
  refine ⟨fun o h hf => ?_, fun h => ⟨timerExpiry_idle h, supplyLoss_idle h micros⟩, rfl⟩
  intro writes expired
  refine ⟨timerExpiry_taken h hf, fun hgoes => ?_, fun hover => ?_, fun hw hp hover => ?_, fun hw hp hover => ?_,
    fun b n hw hover => ?_⟩
  · rw [supplyLoss_taken h hf, State.passTime_goes _ hgoes, State.failOp_pass]
    rfl
  · rw [supplyLoss_taken h hf, State.passTime_expires _ hover]
    rfl
  · have hv := StoreWork.needsVoltage_iff.mpr hw
    rw [programmingVoltageReady_taken h hf hv hp,
      State.passTime_expires _ (by rwa [StoreOp.counted_waiting hv hp])]
  · have hv := StoreWork.needsVoltage_iff.mpr hw
    rw [storePulseVerify_taken h hf hv hp, State.passTime_expires _ (by rwa [StoreOp.counted_writePulse hv hp])]
  · rw [erasePulseVerify_taken h hf hw, State.passTime_expires _ (by rwa [StoreOp.counted_erasePulse hw])]

end Sys2Proof.Machine
end

section
/-! Proofs: PROGRAM SLOT, ERASE BANK and FREEZE STORE (R155, R157, R162). -/

namespace Sys2Proof.Machine

theorem exec_programSlot (seq : Byte) (p : List Byte) (s : State) :
    exec (.programSlot seq p) s = .next (dispatch 0x51 seq p (lengthPayload 60) programWork s) := rfl
theorem exec_eraseBank (seq : Byte) (p : List Byte) (s : State) :
    exec (.eraseBank seq p) s = .next (dispatch 0x52 seq p onePayload eraseWork s) := rfl
theorem exec_freezeStore (seq : Byte) (p : List Byte) (s : State) :
    exec (.freezeStore seq p) s = .next (dispatch 0x54 seq p noPayload freezeWork s) := rfl

/-- Checks 3 to 7 of R157, in order. -/
theorem State.startRefusal_eq (s : State) :
    s.startRefusal = if s.store.latch = true then some .storeFault else if s.store.frozen = true then some .frozen
      else if s.overlay.mapped ≠ none then some .overlayActive else if s.store.inFlight = true then some .busy
      else if s.store.supplyHigh = false then some .lowSupply else none := by
  simp [State.startRefusal, Option.isSome_iff_ne_none]

theorem natAt_cons_one (a b : Byte) (p : List Byte) : natAt (a :: b :: p) 1 = b.toNat := rfl

section
variable {b i : Byte} {p : List Byte} {s : State} {c : ReplyCode}

theorem programWork_badField (h : 7 < b.toNat ∨ 7 < i.toNat ∨ parseScene p = none) :
    programWork (b :: i :: p) s = (s, .bare .badField) := by
  rw [programWork, natAt_cons_zero, natAt_cons_one, List.drop_succ_cons, List.drop_succ_cons, List.drop_zero]
  by_cases hout : 7 < b.toNat ∨ 7 < i.toNat
  · exact if_pos hout
  · rw [if_neg hout, (or_assoc.mpr h).resolve_left hout]

section
variable {sc : Scene} (hb : b.toNat ≤ 7) (hi : i.toNat ≤ 7) (hp : parseScene p = some sc)
include hb hi hp

/-- PROGRAM SLOT with a legal target and record: what is left are the checks on the store (R157). -/
theorem programWork_checked :
    programWork (b :: i :: p) s = s.startRefusal.elim
      (if s.store.stateAt b.toNat i.toNat ≠ .blank then (s, .bare .notBlank)
        else ({ s with store := { s.store with op := some (newOp (.program b.toNat i.toNat sc .mark)) } },
          ⟨.accepted, [b, i, if sc.bytes = p then 0 else 1]⟩)) fun c => (s, .bare c) := by
  have hbytes (x : Byte) : byteOfNat x.toNat = x := by simp [byteOfNat]
  rw [programWork, natAt_cons_zero, natAt_cons_one, List.drop_succ_cons, List.drop_succ_cons, List.drop_zero,
    if_neg (not_or.mpr ⟨Nat.not_lt.mpr hb, Nat.not_lt.mpr hi⟩), hp]
  cases s.startRefusal with
  | some c => rfl
  | none => simp only [markByte_clampMark, hbytes, Option.elim_none]

theorem programWork_refuses (h : s.startRefusal = some c) : programWork (b :: i :: p) s = (s, .bare c) := by
  rw [programWork_checked hb hi hp, h, Option.elim_some]

theorem programWork_notBlank (h : s.startRefusal = none) (hst : s.store.stateAt b.toNat i.toNat ≠ .blank) :
    programWork (b :: i :: p) s = (s, .bare .notBlank) := by
  rw [programWork_checked hb hi hp, h, Option.elim_none, if_pos hst]

/-- PROGRAM SLOT answered ACCEPTED (R157). -/
theorem programWork_starts (h : s.startRefusal = none) (hst : s.store.stateAt b.toNat i.toNat = .blank) :
    programWork (b :: i :: p) s =
      ({ s with store := { s.store with op := some (newOp (.program b.toNat i.toNat sc .mark)) } },
        ⟨.accepted, [b, i, if sc.bytes = p then 0 else 1]⟩) := by
  rw [programWork_checked hb hi hp, h, Option.elim_none, if_neg (not_not.mpr hst)]

end

theorem eraseWork_badField (h : 7 < b.toNat) : eraseWork b s = (s, .bare .badField) := if_pos h

theorem eraseWork_refuses (hb : b.toNat ≤ 7) (h : s.startRefusal = some c) : eraseWork b s = (s, .bare c) := by
  rw [eraseWork, if_neg (Nat.not_lt.mpr hb), h]

theorem eraseWork_starts (hb : b.toNat ≤ 7) (h : s.startRefusal = none) :
    eraseWork b s =
      ({ s with store := { s.store with op := some (newOp (.erase b.toNat (.mark 0))) } }, ⟨.accepted, [b]⟩) := by
  rw [eraseWork, if_neg (Nat.not_lt.mpr hb), h]

theorem freezeWork_busy (h : s.store.inFlight = true) : freezeWork () s = (s, .bare .busy) := if_pos h

theorem freezeWork_freezes (h : s.store.inFlight = false) :
    freezeWork () s = ({ s with store := { s.store with frozen := true } }, .ok []) := if_neg (by simp [h])

end
/-- Settles O50: each request's work case by case, on the state without its entry. -/
theorem storeRequests : Obligations.StoreRequests := by
  unfold Obligations.StoreRequests
  refine ⟨fun st => SceneStore.inFlight_iff, fun seq rest s => ?_⟩
  intro st refusal
  have hrefusal (l : Link) : State.startRefusal { s with link := l } = refusal := State.startRefusal_eq _
  refine ⟨fun b i p hl h => ?_, fun b h => ?_, fun h => ⟨fun hbusy => ?_, fun hidle => ?_⟩⟩
  · intro answers
    have hlen : lengthPayload 60 (b :: i :: p) = some (b :: i :: p) := lengthPayload_eq (by simp [hl])
    refine ⟨fun hbad => ?_, fun sc hb hi hp => ⟨fun c hc => ?_, fun hc hst => ?_, fun hc hst => ?_⟩⟩
    · exact exec_answers (exec_programSlot ..) h s (.bare .badField) hlen (programWork_badField hbad)
    · exact exec_answers (exec_programSlot ..) h s (.bare c) hlen (programWork_refuses hb hi hp ((hrefusal _).trans hc))
    · exact exec_answers (exec_programSlot ..) h s (.bare .notBlank) hlen
        (programWork_notBlank hb hi hp ((hrefusal _).trans hc) hst)
    · exact exec_answers (exec_programSlot ..) h
        { s with store := { s.store with op := some (newOp (.program b.toNat i.toNat sc .mark)) } } ⟨.accepted, _⟩ hlen
        (programWork_starts hb hi hp ((hrefusal _).trans hc) hst)
  · intro answers
    refine ⟨fun hb => ?_, fun c hb hc => ?_, fun hb hc => ?_⟩
    · exact exec_answers (exec_eraseBank ..) h s (.bare .badField) rfl (eraseWork_badField hb)
    · exact exec_answers (exec_eraseBank ..) h s (.bare c) rfl (eraseWork_refuses hb ((hrefusal _).trans hc))
    · exact exec_answers (exec_eraseBank ..) h
        { s with store := { s.store with op := some (newOp (.erase b.toNat (.mark 0))) } } ⟨.accepted, [b]⟩ rfl
        (eraseWork_starts hb ((hrefusal _).trans hc))
  · exact exec_answers (exec_freezeStore ..) h s (.bare .busy) (a := ()) rfl (freezeWork_busy hbusy)
  · exact exec_answers (exec_freezeStore ..) h { s with store := { s.store with frozen := true } } (.ok []) (a := ()) rfl
      (freezeWork_freezes hidle)

end Sys2Proof.Machine
end

section
/-! Proofs: the pulses of an operation in flight (R154, R158, R159, R161). -/

namespace Sys2Proof.Machine

/-! ### The write that follows (R158, R159) -/

section
variable {s : State} {o : StoreOp} {b i n : Nat} {r : Scene}

theorem State.advanceOp_programMark (h : o.work = .program b i r .mark) :
    s.advanceOp o = s.nextWrite o (.program b i r (.write 0)) := by
  rw [State.advanceOp, h]

theorem State.advanceOp_write (h : o.work = .program b i r (.write n)) :
    s.advanceOp o = s.nextWrite o (.program b i r (if n < 28 then .write (n + 1) else .commit)) := by
  rw [State.advanceOp, h]

theorem State.advanceOp_commit (h : o.work = .program b i r .commit) :
    s.advanceOp o = State.finishOp { s with store := s.store.setSlot b i (.valid r) } o := by
  rw [State.advanceOp, h]

theorem State.advanceOp_eraseMark (h : o.work = .erase b (.mark i)) :
    s.advanceOp o = s.nextWrite o (.erase b (if i < 7 then .mark (i + 1) else .prewrite 0 0)) := by
  rw [State.advanceOp, h]

theorem State.advanceOp_prewrite (h : o.work = .erase b (.prewrite i n)) :
    s.advanceOp o = s.nextWrite o (.erase b
      (if n < 29 then .prewrite i (n + 1) else if i < 7 then .prewrite (i + 1) 0 else .pulse 1)) := by
  rw [State.advanceOp, h]

end

/-- An operation that fails ends so with the pulse cut, whichever time was counted of the pulse (R158, R161). -/
theorem State.failOp_ended (s : State) (o : StoreOp) (micros : Nat) (c : FailureCause) :
    s.failOp (o.pass micros) c = { s with
      store := { s.store with
        op := some { o.ended (o.counted micros) with status := .failed c }
        latch := true }
      notices := if s.store.latch then s.notices.raise .storeFailed
        else (s.notices.raise .storeFailed).raise .storeFault } :=
  State.failOp_pass s o micros c

/-- The voltage starts a pulse; a mark's pulse makes its slot INCOMPLETE (R158, R159). -/
theorem State.startPulse_pass {s : State} {o : StoreOp} (hw : o.work.needsVoltage = true) (hp : o.pulsing = false) (micros : Nat) :
    s.startPulse (o.pass micros) = { s with store := { s.store.markPulse o.work with
      op := some { o.ended micros with pulses := o.pulses + 1, pulsing := true } } } := by
  rw [State.startPulse, StoreOp.pass_eq_counted, StoreOp.counted_waiting hw hp]
  rfl

section
variable {s : State} {o : StoreOp} (h : s.store.op = some o) (hf : o.status = .inFlight)
include h hf

section
variable (hw : o.work.needsVoltage = true) (hp : o.pulsing = true)
  (hgoes : o.elapsedMicros + (120 - o.pulseMicros) ≤ 1500000)
include hw hp hgoes

/-- A write pulse's verify, taken up to the timer's bound. -/
theorem storePulseVerify_goes (verified : Bool) :
    exec (.storePulseVerify verified) s = .next (s.endPulse verified (o.pass 120)) := by
  rw [storePulseVerify_taken h hf hw hp,
    State.passTime_goes _ (by rwa [StoreOp.counted_writePulse hw hp])]

theorem storePulseVerify_nextWrite {w : StoreWork} (hadv : s.advanceOp (o.pass 120) = s.nextWrite (o.pass 120) w) :
    exec (.storePulseVerify true) s = .next { s with store := { s.store with
      op := some { o.ended (120 - o.pulseMicros) with work := w, pulses := 0 } } } := by
  rw [storePulseVerify_goes h hf hw hp hgoes, State.endPulse, if_pos rfl, hadv, State.nextWrite, StoreOp.cut_pass,
    StoreOp.counted_writePulse hw hp]

theorem storePulseVerify_commits {b i : Nat} {r : Scene} (hwork : o.work = .program b i r .commit) :
    exec (.storePulseVerify true) s = .next { s with
      store := { s.store.setSlot b i (.valid r) with
        op := some { o.ended (120 - o.pulseMicros) with status := .done } }
      notices := s.notices.raise .storeDone } := by
  rw [storePulseVerify_goes h hf hw hp hgoes, State.endPulse, if_pos rfl,
    State.advanceOp_commit ((o.pass_work 120).trans hwork), State.finishOp, StoreOp.cut_pass,
    StoreOp.counted_writePulse hw hp]
  rfl

theorem storePulseVerify_repeats (hn : o.pulses < 12) :
    exec (.storePulseVerify false) s = .next { s with store := { s.store with
      op := some (o.ended (120 - o.pulseMicros)) } } := by
  have hpulses : ¬12 ≤ (o.pass 120).pulses := by rw [StoreOp.pass_eq_counted]; exact Nat.not_le.mpr hn
  rw [storePulseVerify_goes h hf hw hp hgoes, State.endPulse, if_neg Bool.false_ne_true, if_neg hpulses,
    StoreOp.cut_pass, StoreOp.counted_writePulse hw hp]

theorem storePulseVerify_fails (hn : 12 ≤ o.pulses) :
    exec (.storePulseVerify false) s = .next { s with
      store := { s.store with
        op := some { o.ended (120 - o.pulseMicros) with status := .failed .verify }
        latch := true }
      notices := if s.store.latch then s.notices.raise .storeFailed
        else (s.notices.raise .storeFailed).raise .storeFault } := by
  have hpulses : 12 ≤ (o.pass 120).pulses := by rw [StoreOp.pass_eq_counted]; exact hn
  rw [storePulseVerify_goes h hf hw hp hgoes, State.endPulse, if_neg Bool.false_ne_true, if_pos hpulses,
    State.failOp_ended, StoreOp.counted_writePulse hw hp]

end

section
variable {b n : Nat} (hwork : o.work = .erase b (.pulse n)) (hgoes : o.elapsedMicros + (10500 - o.pulseMicros) ≤ 1500000)
include hwork hgoes

/-- An erase pulse's verify, taken up to the timer's bound. -/
theorem erasePulseVerify_goes (erased : Bool) :
    exec (.erasePulseVerify erased) s = .next (s.endErasePulse erased b n (o.pass 10500)) := by
  rw [erasePulseVerify_taken h hf hwork,
    State.passTime_goes _ (by rwa [StoreOp.counted_erasePulse hwork])]

theorem erasePulseVerify_repeats (hn : n < 60) :
    exec (.erasePulseVerify false) s = .next { s with store := { s.store with
      op := some { o.ended (10500 - o.pulseMicros) with work := .erase b (.pulse (n + 1)) } } } := by
  rw [erasePulseVerify_goes h hf hwork hgoes, State.endErasePulse, if_neg Bool.false_ne_true, if_neg (Nat.not_le.mpr hn),
    StoreOp.cut_pass, StoreOp.counted_erasePulse hwork]

theorem erasePulseVerify_fails (hn : 60 ≤ n) :
    exec (.erasePulseVerify false) s = .next { s with
      store := { s.store with
        op := some { o.ended (10500 - o.pulseMicros) with status := .failed .verify }
        latch := true }
      notices := if s.store.latch then s.notices.raise .storeFailed
        else (s.notices.raise .storeFailed).raise .storeFault } := by
  rw [erasePulseVerify_goes h hf hwork hgoes, State.endErasePulse, if_neg Bool.false_ne_true, if_pos hn,
    State.failOp_ended, StoreOp.counted_erasePulse hwork]

theorem erasePulseVerify_blanks :
    exec (.erasePulseVerify true) s = .next { s with
      store := { s.store.blankBank b with op := some { o.ended (10500 - o.pulseMicros) with status := .done } }
      notices := s.notices.raise .storeDone } := by
  rw [erasePulseVerify_goes h hf hwork hgoes, State.endErasePulse, if_pos rfl, State.finishOp, StoreOp.cut_pass,
    StoreOp.counted_erasePulse hwork]
  rfl

end

end

/-- Settles O51: the slots by their places, then the voltage, the write pulses phase by phase, and the erase pulses. -/
theorem storePulses : Obligations.StorePulses := by
  unfold Obligations.StorePulses
  refine ⟨⟨fun st b i x _ => ⟨fun j => ⟨st.setSlot_array b i x j.isLt, st.setSlot_table b i x j.isLt⟩, rfl, rfl, rfl, rfl⟩,
    rfl, rfl, fun _ => rfl⟩, fun s o micros verified h hf => ?_⟩
  intro st ended goes write erase writes goesOn failed
  refine ⟨fun hw hp hgoes => ?_, fun hp hgoes => ?_, fun b n hwork hgoes => ⟨?_, ?_, ?_⟩⟩
  · have hv := StoreWork.needsVoltage_iff.mpr hw
    rw [programmingVoltageReady_taken h hf hv hp,
      State.passTime_goes _ (by rwa [StoreOp.counted_waiting hv hp]), State.startPulse_pass hv hp]
    rfl
  · have hwork {w : StoreWork} (e : o.work = w) : (o.pass 120).work = w := (o.pass_work 120).trans e
    have hv {w : StoreWork} (e : o.work = w) (hw : w.needsVoltage = true) : o.work.needsVoltage = true := e ▸ hw
    refine ⟨fun b i r e => ?_, fun b i r n e hn => ?_, fun b i r e => ?_, fun b i e hi => ?_, fun b e => ?_,
      fun b i n e hn => ?_, fun b i e hi => ?_, fun b e => ?_, fun b i r e => ?_, fun hw hn => ?_, fun hw hn => ?_⟩
    · exact storePulseVerify_nextWrite h hf (hv e rfl) hp hgoes (State.advanceOp_programMark (hwork e))
    · exact storePulseVerify_nextWrite h hf (hv e rfl) hp hgoes
        ((State.advanceOp_write (hwork e)).trans (by rw [if_pos hn]))
    · exact storePulseVerify_nextWrite h hf (hv e rfl) hp hgoes (State.advanceOp_write (hwork e))
    · exact storePulseVerify_nextWrite h hf (hv e rfl) hp hgoes
        ((State.advanceOp_eraseMark (hwork e)).trans (by rw [if_pos hi]))
    · exact storePulseVerify_nextWrite h hf (hv e rfl) hp hgoes (State.advanceOp_eraseMark (hwork e))
    · exact storePulseVerify_nextWrite h hf (hv e rfl) hp hgoes
        ((State.advanceOp_prewrite (hwork e)).trans (by rw [if_pos hn]))
    · exact storePulseVerify_nextWrite h hf (hv e rfl) hp hgoes
        ((State.advanceOp_prewrite (hwork e)).trans (by rw [if_neg (Nat.lt_irrefl 29), if_pos hi]))
    · exact storePulseVerify_nextWrite h hf (hv e rfl) hp hgoes (State.advanceOp_prewrite (hwork e))
    · exact storePulseVerify_commits h hf (hv e rfl) hp hgoes e
    · exact storePulseVerify_repeats h hf (StoreWork.needsVoltage_iff.mpr hw) hp hgoes hn
    · exact storePulseVerify_fails h hf (StoreWork.needsVoltage_iff.mpr hw) hp hgoes hn
  · rintro rfl hn
    exact erasePulseVerify_repeats h hf hwork hgoes hn
  · rintro rfl hn
    exact erasePulseVerify_fails h hf hwork hgoes hn
  · rintro rfl -
    exact ⟨{ st.blankBank b with op := some { erase with status := .done } },
      fun j => st.blankBank_slots b j.isLt, by rw [st.blankBank_frame]; exact ⟨rfl, rfl, rfl⟩, rfl,
      erasePulseVerify_blanks h hf hwork hgoes⟩

end Sys2Proof.Machine
end

section
/-! Proofs: the laws of the Scene Store over every state: a state outside every run that meets them and whose next step does
not (R157 to R159, log 7). -/

namespace Sys2Proof.Machine

/-- An erase pulse that verify ends, its record with 12 pulses counted and marked as being applied. No run comes here: an erase's
PULSE phase is entered with no pulse counted and none being applied, and takes no voltage event (`run_reset_storeOk`). -/
def eraseMarkedPulsing : State :=
  { State.reset with
    start := ⟨.up, .powerOn⟩
    store := { storeAtReset (Vector.replicate 64 .blank) true with
      op := some { work := .erase 0 (.pulse 1), status := .inFlight, elapsedMicros := 0, pulses := 12, pulsing := true,
                   pulseMicros := 0 } }
    pending := [.erasePulseVerify false] }

/-- The record after the pulse that did not verify: the next erase pulse, with 12 pulses counted and none being applied. -/
def eraseAwaitingWith12 : State :=
  { eraseMarkedPulsing with
    store := { eraseMarkedPulsing.store with
      op := some { work := .erase 0 (.pulse 2), status := .inFlight, elapsedMicros := 10500, pulses := 12, pulsing := false,
                   pulseMicros := 0 } }
    pending := [] }

theorem eraseMarkedPulsing_storeOk : eraseMarkedPulsing.StoreOk := by decide +kernel

/-- The verify goes on to the second erase pulse (R159). -/
theorem step_eraseMarkedPulsing : step eraseMarkedPulsing = .next eraseAwaitingWith12 :=
  erasePulseVerify_repeats (s := { eraseMarkedPulsing with pending := [] }) rfl rfl (b := 0) (n := 1) rfl (by decide)
    (by decide)

/-- A record in flight that awaits a pulse has fewer than 12 behind it. -/
theorem eraseAwaitingWith12_not_storeOk : ¬eraseAwaitingWith12.StoreOk := by
  rintro ⟨-, -, -, hop⟩
  obtain ⟨-, -, -, -, -, hpulses⟩ := hop _ rfl
  exact Nat.lt_irrefl 12 (hpulses rfl rfl)

/-- Refutes O56: the laws bound the pulses of a record by 12 while one is being applied and by fewer while none is, and say
nothing of an erase's PULSE phase that is marked as being applied; its verify clears the mark and keeps the count. -/
theorem not_storeLawsKept : ¬ Obligations.StoreLawsKept := by
  unfold Obligations.StoreLawsKept
  exact fun h =>
    eraseAwaitingWith12_not_storeOk (h eraseMarkedPulsing eraseAwaitingWith12 eraseMarkedPulsing_storeOk step_eraseMarkedPulsing)

end Sys2Proof.Machine
end

section
/-! Proofs: the laws of the Scene Store with one clause more, that only a phase awaiting the voltage has a pulse marked as being
applied (R154, R155, R157 to R159, R164). -/

namespace Sys2Proof.Machine

/-! ### The laws -/

/-- Target, phase, time and pulses of a record lie in their ranges (R155, R158 to R160). -/
def StoreOp.InRange (o : StoreOp) : Prop := o.work.Ok = true ∧ o.elapsedMicros ≤ timerMicros ∧ o.pulses ≤ 12

/-- The law of a record: its ranges, the time counted of its pulse, fewer than 12 pulses where it awaits the next one, and a
pulse marked as being applied only in a phase that awaits the voltage (R158, R159, log 7). -/
structure StoreOp.Lawful (o : StoreOp) : Prop where
  inRange : o.InRange
  pulseMicros_le : ∀ n ∈ o.pulseLength, o.pulseMicros ≤ n
  pulseMicros_eq : o.pulseLength = none → o.pulseMicros = 0
  pulses_lt : o.status = .inFlight → o.pulsing = false → o.pulses < 12
  needsVoltage : o.pulsing = true → o.work.needsVoltage = true

/-- The table shows the headers, or the store was found unreadable and is latched (R154, R164). -/
def SceneStore.TableOk (st : SceneStore) : Prop :=
  st.table = st.array.map Slot.state ∨ st.latch = true ∧ st.table = Vector.replicate 64 .incomplete

/-- Nothing stands beside an operation in flight (R157). -/
def State.StoreFree (s : State) : Prop :=
  s.store.latch = false ∧ s.store.frozen = false ∧ s.store.supplyHigh = true ∧ s.overlay.mapped = none

/-- The laws of the Scene Store, the record's law with its clause on the pulse marked as being applied. -/
structure State.StoreLawful (s : State) : Prop where
  free : s.store.inFlight = true → s.StoreFree
  op_none : s.start.phase ≠ .up → s.store.op = none
  table : s.store.TableOk
  op : ∀ o ∈ s.store.op, o.Lawful

/-- The laws of Safety.lean are these without the clause on the pulse marked as being applied. -/
theorem State.storeLawful_iff {s : State} :
    s.StoreLawful ↔ s.StoreOk ∧ ∀ o ∈ s.store.op, o.pulsing = true → o.work.needsVoltage = true := by
  constructor
  · rintro ⟨hfree, hnone, htable, hop⟩
    refine ⟨⟨hfree, hnone, htable, fun o ho => ?_⟩, fun o ho => (hop o ho).needsVoltage⟩
    obtain ⟨⟨hwork, helapsed, hpulses⟩, hle, heq, hlt, -⟩ := hop o ho
    exact ⟨hwork, helapsed, hpulses, hle, heq, hlt⟩
  · rintro ⟨⟨hfree, hnone, htable, hop⟩, hvoltage⟩
    refine ⟨hfree, hnone, htable, fun o ho => ?_⟩
    obtain ⟨hwork, helapsed, hpulses, hle, heq, hlt⟩ := hop o ho
    exact ⟨⟨hwork, helapsed, hpulses⟩, hle, heq, hlt, hvoltage o ho⟩

/-! ### The record's law -/

section
variable {o : StoreOp}

/-- A record without a pulse marked as being applied and with no time counted of a pulse. -/
theorem StoreOp.lawful_of_waiting (hr : o.InRange) (hp : o.pulsing = false) (hm : o.pulseMicros = 0)
    (hn : o.status = .inFlight → o.pulses < 12) : o.Lawful :=
  ⟨hr, fun n _ => hm ▸ Nat.zero_le n, fun _ => hm, fun hf _ => hn hf, fun h => by simp [hp] at h⟩

theorem newOp_lawful {w : StoreWork} (hw : w.Ok = true) : (newOp w).Lawful :=
  StoreOp.lawful_of_waiting ⟨hw, Nat.zero_le _, Nat.zero_le _⟩ rfl rfl fun _ => Nat.zero_lt_succ _

/-- Counting time keeps the law up to the timer's bound. -/
theorem StoreOp.pass_lawful (h : o.Lawful) {micros : Nat} (ht : (o.pass micros).elapsedMicros ≤ timerMicros) :
    (o.pass micros).Lawful := by
  have hlen : (o.pass micros).pulseLength = o.pulseLength := by unfold StoreOp.pass; split <;> rfl
  obtain ⟨⟨hwork, -, hpulses⟩, hle, heq, hlt, hvoltage⟩ := h
  have hmicros : (∀ n ∈ o.pulseLength, (o.pass micros).pulseMicros ≤ n) ∧
      (o.pulseLength = none → (o.pass micros).pulseMicros = 0) := by
    unfold StoreOp.pass
    cases hl : o.pulseLength with
    | none => exact ⟨by simp, fun _ => heq hl⟩
    | some n =>
      have hn : o.pulseMicros ≤ n := hle n hl
      refine ⟨?_, by simp⟩
      rintro _ ⟨⟩
      dsimp only
      omega
  obtain ⟨e, -, -⟩ := o.pass_eq micros
  have hstatus : (o.pass micros).status = o.status := by rw [e]
  have hpulsing : (o.pass micros).pulsing = o.pulsing := by rw [e]
  have hcount : (o.pass micros).pulses = o.pulses := by rw [e]
  refine ⟨⟨?_, ht, ?_⟩, ?_, ?_, ?_, ?_⟩
  · rwa [o.pass_work]
  · rwa [hcount]
  · rw [hlen]; exact hmicros.1
  · rw [hlen]; exact hmicros.2
  · rw [hstatus, hpulsing, hcount]; exact hlt
  · rw [hpulsing, o.pass_work]; exact hvoltage

end

end Sys2Proof.Machine
end

section
/-! Proofs: every step keeps the laws of the Scene Store with the clause on the pulse marked as being applied, so they hold after
every run from the reset (R154 to R164). -/

namespace Sys2Proof.Machine

/-! ### The operation's shared updates -/

theorem SceneStore.setSlot_tableShows {st : SceneStore} (h : st.table = st.array.map Slot.state) (b i : Nat) (x : Slot) :
    (st.setSlot b i x).table = (st.setSlot b i x).array.map Slot.state := by
  ext j hj
  rw [Vector.getElem_map, setSlot_array _ _ _ _ hj, setSlot_table _ _ _ _ hj, apply_ite Slot.state, h, Vector.getElem_map]

theorem SceneStore.blankBank_tableShows {st : SceneStore} (h : st.table = st.array.map Slot.state) (b : Nat) :
    (st.blankBank b).table = (st.blankBank b).array.map Slot.state :=
  List.foldlRecOn (motive := fun r : SceneStore => r.table = r.array.map Slot.state) _ _ h
    fun _ hr i _ => setSlot_tableShows hr b i .blank

theorem SceneStore.markPulse_frame (st : SceneStore) (w : StoreWork) :
    st.markPulse w = { st with array := (st.markPulse w).array, table := (st.markPulse w).table } := by
  unfold SceneStore.markPulse
  split <;> rfl

theorem SceneStore.markPulse_tableShows {st : SceneStore} (h : st.table = st.array.map Slot.state) (w : StoreWork) :
    (st.markPulse w).table = (st.markPulse w).array.map Slot.state := by
  unfold SceneStore.markPulse
  split
  · exact setSlot_tableShows h ..
  · exact setSlot_tableShows h ..
  · exact h

section
variable {s : State} {o : StoreOp}

/-- The laws of a state that is up and has an operation record. -/
theorem State.storeLawful_of_op (hphase : s.start.phase = .up) (htable : s.store.TableOk) (hop : s.store.op = some o)
    (ho : o.Lawful) (hfree : o.status = .inFlight → s.StoreFree) : s.StoreLawful := by
  refine ⟨fun h => ?_, fun h => absurd hphase h, htable, fun o' ho' => ?_⟩
  · obtain ⟨o', ho', hf⟩ := SceneStore.inFlight_iff.mp h
    cases hop.symm.trans ho'
    exact hfree hf
  · cases hop.symm.trans ho'
    exact ho

theorem State.storeLawful_of_op_none (hnone : s.store.op = none) (htable : s.store.TableOk) : s.StoreLawful := by
  refine ⟨fun h => ?_, fun _ => hnone, htable, fun o ho => nomatch hnone.symm.trans ho⟩
  obtain ⟨o, ho, -⟩ := SceneStore.inFlight_iff.mp h
  exact nomatch hnone.symm.trans ho

theorem State.failOp_storeLawful (hphase : s.start.phase = .up) (htable : s.store.TableOk) (ho : o.InRange)
    (c : FailureCause) : (s.failOp o c).StoreLawful := by
  refine State.storeLawful_of_op (o := { o.cut with status := .failed c }) (by simpa [State.failOp] using hphase) ?_
    (by simp [State.failOp]) (StoreOp.lawful_of_waiting ho rfl rfl nofun) nofun
  have hstore : (s.failOp o c).store =
      { s.store with op := some { o.cut with status := .failed c }, latch := true } := by simp [State.failOp]
  rw [hstore]
  exact htable.imp_right fun ⟨_, h⟩ => ⟨rfl, h⟩

theorem State.finishOp_storeLawful (hphase : s.start.phase = .up) (htable : s.store.TableOk) (ho : o.InRange) :
    (s.finishOp o).StoreLawful :=
  State.storeLawful_of_op (o := { o.cut with status := .done }) hphase htable rfl
    (StoreOp.lawful_of_waiting ho rfl rfl nofun) nofun

/-- An event taken up to the timer's bound, or the operation abandoned at it (R160). -/
theorem State.passTime_storeLawful (hphase : s.start.phase = .up) (htable : s.store.TableOk) (ho : o.Lawful)
    (micros : Nat) {event : StoreOp → State}
    (he : (o.pass micros).Lawful → (event (o.pass micros)).StoreLawful) : (s.passTime o micros event).StoreLawful := by
  obtain ⟨hwork, -, hpulses⟩ := ho.inRange
  unfold State.passTime
  split
  · exact State.failOp_storeLawful (o := { o with elapsedMicros := timerMicros }) hphase htable
      ⟨hwork, Nat.le_refl _, hpulses⟩ _
  · next ht => exact he (StoreOp.pass_lawful ho (Nat.not_lt.mp ht))

/-! ### The operation's events -/

section
variable (hphase : s.start.phase = .up) (htable : s.store.table = s.store.array.map Slot.state) (hfree : s.StoreFree)
include hphase htable hfree

/-- A record in flight put in the place of another, with no pulse in progress. -/
theorem State.setOp_storeLawful {o' : StoreOp} (hr : o'.InRange) (hp : o'.pulsing = false) (hm : o'.pulseMicros = 0)
    (hn : o'.pulses < 12) : State.StoreLawful { s with store := { s.store with op := some o' } } :=
  State.storeLawful_of_op hphase (.inl htable) rfl (StoreOp.lawful_of_waiting hr hp hm fun _ => hn) fun _ => hfree

variable (ho : o.Lawful)
include ho

theorem State.startPulse_storeLawful (hf : o.status = .inFlight) (hv : o.work.needsVoltage = true) (hp : o.pulsing = false) :
    (s.startPulse o).StoreLawful := by
  obtain ⟨hwork, helapsed, -⟩ := ho.inRange
  have hlt := ho.pulses_lt hf hp
  refine State.storeLawful_of_op (o := { o with pulses := o.pulses + 1, pulsing := true, pulseMicros := 0 }) hphase
    (.inl (SceneStore.markPulse_tableShows htable _)) rfl
    ⟨⟨hwork, helapsed, hlt⟩, fun n _ => Nat.zero_le n, fun _ => rfl, fun _ h => (nomatch h), fun _ => hv⟩ fun _ => ?_
  rw [State.StoreFree, State.startPulse, SceneStore.markPulse_frame]
  exact hfree

theorem State.nextWrite_storeLawful {w : StoreWork} (hw : w.Ok = true) : (s.nextWrite o w).StoreLawful :=
  State.setOp_storeLawful hphase htable hfree (o' := { o.cut with work := w, pulses := 0 })
    ⟨hw, ho.inRange.2.1, Nat.zero_le _⟩ rfl rfl (Nat.zero_lt_succ _)

theorem State.advanceOp_storeLawful (hv : o.work.needsVoltage = true) : (s.advanceOp o).StoreLawful := by
  obtain ⟨hwork, -⟩ := ho.inRange
  have hnext {w : StoreWork} (hw : w.Ok = true) := State.nextWrite_storeLawful hphase htable hfree ho hw
  unfold State.advanceOp
  split
  · next h => exact hnext (by simp_all [StoreWork.Ok])
  · next h => exact hnext (by split <;> simp_all [StoreWork.Ok])
  · exact State.finishOp_storeLawful hphase (.inl (SceneStore.setSlot_tableShows htable ..)) ho.inRange
  · next h => exact hnext (by split <;> simp_all [StoreWork.Ok])
  · next h => exact hnext (by split_ifs <;> simp_all [StoreWork.Ok])
  · next h => rw [h] at hv; cases hv

theorem State.endPulse_storeLawful (hv : o.work.needsVoltage = true) (verified : Bool) :
    (s.endPulse verified o).StoreLawful := by
  unfold State.endPulse
  split
  · exact State.advanceOp_storeLawful hphase htable hfree ho hv
  split
  · exact State.failOp_storeLawful hphase (.inl htable) ho.inRange _
  · next hn => exact State.setOp_storeLawful hphase htable hfree (o' := o.cut) ho.inRange rfl rfl (Nat.not_le.mp hn)

/-- The clause on the pulse marked as being applied is what bounds the count here: the erase has none, so fewer than 12. -/
theorem State.endErasePulse_storeLawful (hf : o.status = .inFlight) {b n : Nat} (hw : o.work = .erase b (.pulse n))
    (erased : Bool) : (s.endErasePulse erased b n o).StoreLawful := by
  obtain ⟨hwork, helapsed, hpulses⟩ := ho.inRange
  have hidle : o.pulsing = false := by
    refine Bool.eq_false_iff.mpr fun hp => ?_
    have hv := ho.needsVoltage hp
    rw [hw] at hv
    cases hv
  unfold State.endErasePulse
  split
  · exact State.finishOp_storeLawful (s := { s with store := s.store.blankBank b }) hphase
      (.inl (SceneStore.blankBank_tableShows htable b)) ho.inRange
  split
  · exact State.failOp_storeLawful hphase (.inl htable) ho.inRange _
  · next hn =>
    exact State.setOp_storeLawful hphase htable hfree (o' := { o.cut with work := .erase b (.pulse (n + 1)) })
      ⟨by simp_all [StoreWork.Ok], helapsed, hpulses⟩ rfl rfl (ho.pulses_lt hf hidle)

end
end

/-! ### The store's commands -/

/-- What the laws say where an operation is in flight. -/
theorem State.StoreLawful.current {s : State} (hs : s.StoreLawful) {o : StoreOp} (h : s.store.current = some o) :
    s.start.phase = .up ∧ s.store.table = s.store.array.map Slot.state ∧ s.StoreFree ∧ o.Lawful ∧ o.status = .inFlight := by
  obtain ⟨hop, hf⟩ := SceneStore.current_eq_some_iff.mp h
  have hfree := hs.free (SceneStore.inFlight_iff.mpr ⟨o, hop, hf⟩)
  have hlatch : s.store.latch = false := hfree.1
  have hphase : s.start.phase = .up := by
    by_contra hne
    exact nomatch hop.symm.trans (hs.op_none hne)
  exact ⟨hphase, hs.table.resolve_right fun hl => Bool.false_ne_true (hlatch.symm.trans hl.1), hfree, hs.op o hop, hf⟩

theorem execProgrammingVoltageReady_storeLawful {wait : Nat} {s t : State} (hs : s.StoreLawful)
    (h : execProgrammingVoltageReady wait s = .next t) : t.StoreLawful := by
  cases h
  split
  · next o hcur =>
    obtain ⟨hphase, htable, hfree, ho, hf⟩ := hs.current hcur
    split
    · next hcond =>
      obtain ⟨hv, hp⟩ := Bool.and_eq_true_iff.mp hcond
      refine State.passTime_storeLawful hphase (.inl htable) ho wait fun ho' => ?_
      refine State.startPulse_storeLawful hphase htable hfree ho' ?_ ?_ ?_
      · rw [StoreOp.pass_eq_counted]; exact hf
      · rwa [o.pass_work]
      · rw [StoreOp.pass_eq_counted]; simpa using hp
    · exact hs
  · exact hs

theorem execStorePulseVerify_storeLawful {verified : Bool} {s t : State} (hs : s.StoreLawful)
    (h : execStorePulseVerify verified s = .next t) : t.StoreLawful := by
  cases h
  split
  · next o hcur =>
    obtain ⟨hphase, htable, hfree, ho, -⟩ := hs.current hcur
    split
    · next hcond =>
      obtain ⟨hv, -⟩ := Bool.and_eq_true_iff.mp hcond
      refine State.passTime_storeLawful hphase (.inl htable) ho 120 fun ho' => ?_
      exact State.endPulse_storeLawful hphase htable hfree ho' (by rwa [o.pass_work]) verified
    · exact hs
  · exact hs

theorem execErasePulseVerify_storeLawful {erased : Bool} {s t : State} (hs : s.StoreLawful)
    (h : execErasePulseVerify erased s = .next t) : t.StoreLawful := by
  cases h
  split
  · next o hcur =>
    obtain ⟨hphase, htable, hfree, ho, hf⟩ := hs.current hcur
    split
    · next hw =>
      refine State.passTime_storeLawful hphase (.inl htable) ho 10500 fun ho' => ?_
      refine State.endErasePulse_storeLawful hphase htable hfree ho' ?_ ((o.pass_work 10500).trans hw) erased
      rw [StoreOp.pass_eq_counted]
      exact hf
    · exact hs
  · exact hs

theorem execTimerExpiry_storeLawful {s t : State} (hs : s.StoreLawful) (h : execTimerExpiry s = .next t) :
    t.StoreLawful := by
  cases h
  split
  · next o hcur =>
    obtain ⟨hphase, htable, -, ho, -⟩ := hs.current hcur
    obtain ⟨hwork, -, hpulses⟩ := ho.inRange
    exact State.failOp_storeLawful (o := { o with elapsedMicros := timerMicros }) hphase (.inl htable)
      ⟨hwork, Nat.le_refl _, hpulses⟩ _
  · exact hs

theorem execSupplyLoss_storeLawful {since : Nat} {s t : State} (hs : s.StoreLawful)
    (h : execSupplyLoss since s = .next t) : t.StoreLawful := by
  cases h
  dsimp only
  split
  · next o hcur =>
    obtain ⟨hphase, htable, -, ho, -⟩ := hs.current hcur
    exact State.passTime_storeLawful (s := { s with store := { s.store with supplyHigh := false } }) hphase (.inl htable) ho
      since fun ho' => State.failOp_storeLawful (s := { s with store := { s.store with supplyHigh := false } }) hphase
        (.inl htable) ho'.inRange _
  · next hcur =>
    refine ⟨fun hin => ?_, hs.op_none, hs.table, hs.op⟩
    obtain ⟨o, ho⟩ := SceneStore.inFlight_iff.mp hin
    exact nomatch hcur.symm.trans (SceneStore.current_eq_some_iff.mpr ho)

theorem State.passToStatus_storeLawful {s : State} (hs : s.StoreLawful) (since : Nat) : (s.passToStatus since).StoreLawful := by
  unfold State.passToStatus
  split
  · next o hcur =>
    obtain ⟨hphase, htable, hfree, ho, -⟩ := hs.current hcur
    obtain ⟨hwork, -, hpulses⟩ := ho.inRange
    split
    · exact State.failOp_storeLawful (o := { o with elapsedMicros := timerMicros }) hphase (.inl htable)
        ⟨hwork, Nat.le_refl _, hpulses⟩ _
    · next ht =>
      exact State.storeLawful_of_op hphase (.inl htable) rfl (StoreOp.pass_lawful ho (Nat.le_of_not_le ht)) fun _ => hfree
  · exact hs

/-! ### The requests -/

/-- The laws speak of the store, of the start-up's phase and of the bank mapped alone. -/
theorem State.StoreLawful.congr {s t : State} (hs : s.StoreLawful) (hstore : t.store = s.store)
    (hphase : t.start.phase = s.start.phase) (hmapped : t.overlay.mapped = s.overlay.mapped) : t.StoreLawful := by
  obtain ⟨hfree, hnone, htable, hop⟩ := hs
  refine ⟨?_, ?_, ?_, ?_⟩
  · rw [State.StoreFree, hstore, hmapped]; exact hfree
  · rw [hstore, hphase]; exact hnone
  · rw [hstore]; exact htable
  · rw [hstore]; exact hop

/-- A dispatched request keeps the laws where its work does while the part is up (R173). -/
theorem dispatch_storeLawful {α : Type} {kind seq : Byte} {payload : List Byte} {parse : List Byte → Option α}
    {work : α → State → State × Reply} {s : State} (hs : s.StoreLawful)
    (hwork : ∀ a u, u.start.phase = .up → State.StoreLawful u → (work a u).1.StoreLawful) :
    (dispatch kind seq payload parse work s).StoreLawful := by
  rcases dispatch_cases kind seq payload parse work s with ⟨-, h1⟩ | ⟨s1, ht, ⟨-, h1⟩ | ⟨a, -, h1⟩⟩
  · rw [h1]; exact hs
  all_goals
    rw [h1]
    obtain ⟨⟨hphase, -⟩, rfl⟩ := State.take_eq_some.mp ht
  · exact hs.congr rfl rfl rfl
  · exact (hwork a { s with link := { s.link with fifo := s.link.fifo.tail } } hphase (hs.congr rfl rfl rfl)).congr rfl rfl rfl

/-- An operation is started only where nothing stands beside it and none is in flight (R157). -/
theorem State.storeFree_of_startRefusal {s : State} (h : s.startRefusal = none) : s.StoreFree := by
  rw [State.startRefusal_eq] at h
  split_ifs at h with hlatch hfrozen hmapped hbusy hsupply
  exact ⟨by simpa using hlatch, by simpa using hfrozen, by simpa using hsupply, by simpa using hmapped⟩

theorem State.startOp_storeLawful {s : State} (hs : s.StoreLawful) (hphase : s.start.phase = .up)
    (h : s.startRefusal = none) {w : StoreWork} (hw : w.Ok = true) :
    State.StoreLawful { s with store := { s.store with op := some (newOp w) } } :=
  State.storeLawful_of_op hphase hs.table rfl (newOp_lawful hw) fun _ => (State.storeFree_of_startRefusal h :)

theorem programWork_storeLawful (p : List Byte) {s : State} (hphase : s.start.phase = .up) (hs : s.StoreLawful) :
    (programWork p s).1.StoreLawful := by
  unfold programWork
  dsimp only
  split
  · exact hs
  next hin =>
  split
  · exact hs
  split
  · exact hs
  next h =>
  split
  · exact hs
  · exact State.startOp_storeLawful hs hphase h (by simp only [StoreWork.Ok, Bool.and_eq_true, decide_eq_true_eq]; omega)

theorem eraseWork_storeLawful (b : Byte) {s : State} (hphase : s.start.phase = .up) (hs : s.StoreLawful) :
    (eraseWork b s).1.StoreLawful := by
  unfold eraseWork
  split
  · exact hs
  next hin =>
  split
  · exact hs
  · next h =>
    exact State.startOp_storeLawful hs hphase h (by simp only [StoreWork.Ok, Bool.and_eq_true, decide_eq_true_eq]; omega)

theorem freezeWork_storeLawful {s : State} (hs : s.StoreLawful) : (freezeWork () s).1.StoreLawful := by
  unfold freezeWork
  split
  · exact hs
  · next h => exact ⟨fun hin => absurd hin h, hs.op_none, hs.table, hs.op⟩

theorem overlayOnWork_storeLawful (b : Byte) {s : State} (hs : s.StoreLawful) : (overlayOnWork b s).1.StoreLawful := by
  unfold overlayOnWork
  split
  · exact hs
  split
  · exact hs
  split
  · exact hs
  · next h => exact ⟨fun hin => absurd hin h, hs.op_none, hs.table, hs.op⟩

theorem overlayOffWork_storeLawful {s : State} (hs : s.StoreLawful) : (overlayOffWork () s).1.StoreLawful := by
  unfold overlayOffWork
  dsimp only
  split
  · exact hs
  · refine ⟨fun hin => ?_, hs.op_none, hs.table, hs.op⟩
    obtain ⟨hlatch, hfrozen, hsupply, -⟩ := hs.free hin
    exact ⟨hlatch, hfrozen, hsupply, rfl⟩

theorem overlayWriteWork_storeLawful (p : List Byte) {s : State} (hs : s.StoreLawful) :
    (overlayWriteWork p s).1.StoreLawful := by
  unfold overlayWriteWork
  dsimp only
  split
  · exact hs
  · split
    · exact hs
    · exact hs.congr rfl rfl rfl

/-! ### Every command -/

theorem State.takeReset_storeLawful (s : State) (kind : ResetKind) (high : Bool) (phase : StartPhase) :
    (s.takeReset kind high phase).StoreLawful :=
  State.storeLawful_of_op_none rfl (.inl rfl)

theorem execSelfCheckEnd_storeLawful {ramFault storeUnreadable : Bool} {s t : State} (hs : s.StoreLawful)
    (h : execSelfCheckEnd ramFault storeUnreadable s = .next t) : t.StoreLawful := by
  cases h
  split
  · next hphase =>
    have hnone : s.store.op = none := hs.op_none (by rw [hphase]; decide)
    dsimp only
    rw [State.startEngine_frame]
    cases storeUnreadable
    · exact State.storeLawful_of_op_none hnone hs.table
    · exact State.storeLawful_of_op_none hnone (.inr ⟨rfl, rfl⟩)
  · exact hs

/-- The laws where neither the store nor the overlay nor the start-up changes. -/
theorem State.storeLawful_of_changesOnly {l : List Block} {s t : State} (hs : s.StoreLawful) (h : s.ChangesOnly l t)
    (hl : [Block.store, .overlay, .start].all (· ∉ l) = true) : t.StoreLawful := by
  simp only [List.all_cons, List.all_nil, Bool.and_eq_true, decide_eq_true_eq, and_true] at hl
  obtain ⟨hstore, hoverlay, hstart⟩ := hl
  have estore : t.store = s.store := h.2 _ hstore
  have eoverlay : t.overlay = s.overlay := h.2 _ hoverlay
  have estart : t.start = s.start := h.2 _ hstart
  exact hs.congr estore (by rw [estart]) (by rw [eoverlay])

/-- Every command keeps the laws. -/
theorem exec_storeLawful {c : Instr} {s t : State} (hs : s.StoreLawful) (h : exec c s = .next t) : t.StoreLawful := by
  cases c with
  | powerOnReset _ | pinReset _ => cases h; exact State.takeReset_storeLawful ..
  | softReset _ =>
    cases h
    split
    · exact State.takeReset_storeLawful ..
    · exact hs
  | resetnRelease =>
    cases h
    split
    · next hheld =>
      have hnone : s.store.op = none := hs.op_none (by rw [hheld]; decide)
      exact State.storeLawful_of_op_none hnone hs.table
    · exact hs
  | selfCheckEnd _ _ => exact execSelfCheckEnd_storeLawful hs h
  | programSlot _ _ => cases h; exact dispatch_storeLawful hs fun a _ => programWork_storeLawful a
  | eraseBank _ _ => cases h; exact dispatch_storeLawful hs fun a _ => eraseWork_storeLawful a
  | freezeStore _ _ => cases h; exact dispatch_storeLawful hs fun _ _ _ => freezeWork_storeLawful
  | storeStatus _ _ => cases h; exact dispatch_storeLawful hs fun _ _ _ hu => State.passToStatus_storeLawful hu _
  | overlayOn _ _ => cases h; exact dispatch_storeLawful hs fun a _ _ => overlayOnWork_storeLawful a
  | overlayOff _ _ => cases h; exact dispatch_storeLawful hs fun _ _ _ => overlayOffWork_storeLawful
  | overlayWrite _ _ => cases h; exact dispatch_storeLawful hs fun a _ _ => overlayWriteWork_storeLawful a
  | programmingVoltageReady _ => exact execProgrammingVoltageReady_storeLawful hs h
  | storePulseVerify _ => exact execStorePulseVerify_storeLawful hs h
  | erasePulseVerify _ => exact execErasePulseVerify_storeLawful hs h
  | timerExpiry => exact execTimerExpiry_storeLawful hs h
  | supplyLoss _ => exact execSupplyLoss_storeLawful hs h
  | storeSupplyRestored =>
    cases h
    refine ⟨fun hin => ?_, hs.op_none, hs.table, hs.op⟩
    obtain ⟨hlatch, hfrozen, -, hmapped⟩ := hs.free hin
    exact ⟨hlatch, hfrozen, rfl, hmapped⟩
  | _ => exact State.storeLawful_of_changesOnly hs (exec_changesOnly h) rfl

theorem reset_storeLawful : State.reset.StoreLawful := State.storeLawful_iff.mpr ⟨reset_storeOk, by simp [State.reset, storeAtReset]⟩

/-- From a state that meets the laws, with no erase pulse marked as being applied, every step leads to one that does. -/
theorem step_storeLawful {s t : State} (hs : s.StoreLawful) (h : step s = .next t) : t.StoreLawful :=
  step_keeps (P := State.StoreLawful) (fun _ _ h => h.congr rfl rfl rfl) (fun _ _ _ => exec_storeLawful) hs h

/-- A run of one step more is that step and a run from where it leads. -/
theorem exists_step_of_run_succ {M : Host.Core} {k : Nat} {s t : M.State} (h : M.run (k + 1) s = .next t) :
    ∃ u, M.step s = .next u ∧ M.run k u = .next t := by
  unfold Host.Core.run at h
  split at h
  · next u hu => exact ⟨u, hu, h⟩
  · cases h
  · cases h

theorem run_storeLawful {s t : State} (hs : s.StoreLawful) {k : Nat} (h : core.run k s = .next t) : t.StoreLawful := by
  induction k generalizing s with
  | zero => cases h; exact hs
  | succ k ih =>
    obtain ⟨u, hu, hrest⟩ := exists_step_of_run_succ h
    exact ih (step_storeLawful hs hu) hrest

/-- What holds in place of O56: the laws of Safety.lean hold after every run of commands from the reset. -/
theorem run_reset_storeOk (commands : List Instr) {k : Nat} {t : State}
    (h : core.run k { State.reset with pending := commands } = .next t) : t.StoreOk :=
  have hs : State.StoreLawful { State.reset with pending := commands } := reset_storeLawful.congr rfl rfl rfl
  (State.storeLawful_iff.mp (run_storeLawful hs h)).1

end Sys2Proof.Machine
end

section
/-! Proofs: the receive assembler (R166 to R169): the effect of each byte, the receive events, and the frames that assemble. -/

namespace Sys2Proof.Machine

/-! ### The effect of a byte, by the assembler's state (R167, R168) -/

theorem byteEffect_hunt (b : Byte) (stopError : Bool) :
    byteEffect .hunt b stopError = .state (if b = 0x7E ∧ stopError = false then .length else .hunt) := by
  simp only [byteEffect, Bool.and_eq_true, Bool.not_eq_true', decide_eq_true_eq, and_comm (a := stopError = false)]
  split <;> rfl

/-- A stop-bit error inside a frame goes before everything else (log 27). -/
theorem byteEffect_stop {a : Assembler} (ha : a ≠ .hunt) (b : Byte) : byteEffect a b true = .fault .stop := by
  cases a with
  | hunt => exact absurd rfl ha
  | length | body _ _ => rfl

theorem byteEffect_length (b : Byte) : byteEffect .length b false =
    if 2 ≤ b.toNat ∧ b.toNat ≤ 250 then .state (.body b.toNat []) else .fault .length := rfl

section
variable {n : Nat} {stored : List Byte} {b : Byte}

theorem byteEffect_stored (h : stored.length + 1 < n) :
    byteEffect (.body n stored) b false = .state (.body n (stored ++ [b])) := if_pos h

theorem byteEffect_completes {k q : Byte} {p : List Byte} (h : n ≤ stored.length + 1) (hf : stored ++ [b] = k :: q :: p) :
    byteEffect (.body n stored) b false = .frame k q p := by
  simp [byteEffect, Nat.not_lt.mpr h, hf]

end

/-- A byte that only moves the assembler moves it within its bounds. -/
theorem byteEffect_ok {a a' : Assembler} {b : Byte} {stopError : Bool} (ha : a.Ok = true)
    (h : byteEffect a b stopError = .state a') : a'.Ok = true := by
  unfold byteEffect at h
  split at h
  · split at h <;> cases h <;> rfl
  · split at h
    · cases h
    split at h
    · next hb =>
      cases h
      simp only [Assembler.Ok, Bool.and_eq_true, decide_eq_true_eq, List.length_nil]
      omega
    · cases h
  · split at h
    · cases h
    split at h
    · next hlt =>
      cases h
      simp only [Assembler.Ok, Bool.and_eq_true, decide_eq_true_eq, List.length_append, List.length_singleton] at ha ⊢
      exact ⟨ha.1, hlt⟩
    · split at h <;> cases h
      rfl

/-! ### The effect carried out (R169) -/

theorem State.applyByte_state (s : State) (a : Assembler) :
    s.applyByte (.state a) = { s with link := { s.link with assembler := a } } := rfl

theorem State.applyByte_completed (s : State) (k q : Byte) (p : List Byte) :
    s.applyByte (.frame k q p) = s.offered (.frame k q p) := rfl

theorem State.applyByte_fault (s : State) (c : ReceiveFault) : s.applyByte (.fault c) = s.offered (.fault c) := rfl

theorem State.offered_room {s : State} (e : FifoEntry) (h : s.link.fifo.length < 4) :
    s.offered e = { s with link := { s.link with assembler := .hunt, fifo := s.link.fifo ++ [e] } } := if_pos h

/-! ### The receive events of a part that is not held in reset -/

section
variable {s : State} (h : s.start.phase ≠ .pinHeld)
include h

/-- A part that is not held in reset takes the byte in its assembler's state (R180). -/
theorem State.byteEffect_eq (b : Byte) (stopError : Bool) :
    s.byteEffect b stopError = Sys2Proof.Machine.byteEffect s.link.assembler b stopError := if_neg h

theorem exec_receivedByte {a : Assembler} (ha : s.link.assembler = a) {b : Byte} {stopError : Bool} {e : ByteEffect}
    (he : byteEffect a b stopError = e) : exec (.receivedByte b stopError) s = .next (s.applyByte e) := by
  rw [← he, ← ha, ← State.byteEffect_eq h]
  rfl

theorem exec_frameReceived {a : Assembler} (ha : s.link.assembler = a) {b k q : Byte} {p : List Byte}
    (he : byteEffect a b false = .frame k q p) : exec (.frameReceived b) s = .next (s.offered (.frame k q p)) := by
  rw [← ha, ← State.byteEffect_eq h] at he
  rw [← State.applyByte_completed, exec, execFrameReceived, he]

theorem exec_receiveFault {a : Assembler} (ha : s.link.assembler = a) {b : Byte} {stopError : Bool} {c : ReceiveFault}
    (he : byteEffect a b stopError = .fault c) :
    exec (.receiveFault b stopError) s = .next (s.offered (.fault c)) := by
  rw [← ha, ← State.byteEffect_eq h] at he
  rw [← State.applyByte_fault, exec, execReceiveFault, he]

theorem exec_receiveGapTimeout (ha : s.link.assembler ≠ .hunt) :
    exec .receiveGapTimeout s = .next (s.offered (.fault .gap)) := by
  rw [← State.applyByte_fault, exec, execReceiveGapTimeout, if_neg (by simp [ha, h])]

end

/-- Settles O28: each clause is a byte's effect in one state of the assembler, carried out. -/
theorem receivedBytes : Obligations.ReceivedBytes := by
  unfold Obligations.ReceivedBytes
  refine fun b stopError s h => ⟨fun ha => ?_, fun ha hstop => ?_, fun ha hstop => ?_, fun n stored ha hstop =>
    ⟨fun hlt => ?_, fun k q p hn hf => ?_⟩⟩
  · exact exec_receivedByte h ha (byteEffect_hunt b stopError)
  · exact exec_receivedByte h rfl (hstop ▸ byteEffect_stop ha b)
  · rw [exec_receivedByte h ha (hstop ▸ byteEffect_length b)]
    split <;> rfl
  · exact exec_receivedByte h ha (hstop ▸ byteEffect_stored hlt)
  · exact exec_receivedByte h ha (hstop ▸ byteEffect_completes hn.ge hf)

/-- Settles O30: each named event offers the entry that the byte's effect, or the gap timer, gives. -/
theorem receiveEventsOffer : Obligations.ReceiveEventsOffer := by
  unfold Obligations.ReceiveEventsOffer
  refine fun s h => ⟨fun b n stored k q p ha hn hf => ?_, fun b ha => ?_, fun b ha hb => ?_, exec_receiveGapTimeout h⟩
  · exact exec_frameReceived h ha (byteEffect_completes hn hf)
  · exact exec_receiveFault h rfl (byteEffect_stop ha b)
  · exact exec_receiveFault h ha (by rw [byteEffect_length, if_neg (by omega)])

/-! ### A frame received byte by byte -/

section
variable {s : State} (h : s.start.phase ≠ .pinHeld)
include h

/-- The first of the bytes received acts by its effect, then the others arrive. -/
theorem receiveBytes_cons {a : Assembler} (ha : s.link.assembler = a) {b : Byte} {e : ByteEffect}
    (he : byteEffect a b false = e) (bytes : List Byte) :
    receiveBytes (b :: bytes) s = receiveBytes bytes (s.applyByte e) := by
  rw [receiveBytes, List.foldl_cons, exec_receivedByte h ha he]
  rfl

/-- From a body that lacks exactly the bytes that arrive, the frame of all its bytes is offered. -/
theorem receiveBytes_body {bytes stored : List Byte} {n : Nat} {k q : Byte} {p : List Byte}
    (ha : s.link.assembler = .body n stored) (hb : bytes ≠ []) (hn : stored.length + bytes.length = n)
    (hf : stored ++ bytes = k :: q :: p) : receiveBytes bytes s = s.offered (.frame k q p) := by
  induction bytes generalizing s stored with
  | nil => exact absurd rfl hb
  | cons b bytes ih =>
    rw [List.length_cons] at hn
    cases bytes with
    | nil =>
      rw [List.length_nil] at hn
      rw [receiveBytes_cons h ha (byteEffect_completes hn.ge hf)]
      rfl
    | cons c rest =>
      rw [receiveBytes_cons h ha (byteEffect_stored (by rw [List.length_cons] at hn; omega)), State.applyByte_state]
      exact ih (s := { s with link := { s.link with assembler := .body n (stored ++ [b]) } }) h rfl (List.cons_ne_nil c rest)
        (by simp only [List.length_append, List.length_cons, List.length_nil] at hn ⊢; omega) (by simpa using hf)

end

/-- Settles O29: the start byte, the length byte, then the body by induction on the bytes still to come. -/
theorem framesAssemble : Obligations.FramesAssemble := by
  unfold Obligations.FramesAssemble
  intro kind seq payload s hlen h ha hroom
  have hn : (byteOfNat (payload.length + 2)).toNat = payload.length + 2 := byteOfNat_toNat (by omega)
  have hstart : byteEffect .hunt 0x7E false = .state .length := byteEffect_hunt 0x7E false
  have hlength : byteEffect .length (byteOfNat (payload.length + 2)) false = .state (.body (payload.length + 2) []) := by
    rw [byteEffect_length, hn, if_pos (by omega)]
  rw [receiveBytes_cons h ha hstart, receiveBytes_cons (by exact h) rfl hlength,
    receiveBytes_body (by exact h) rfl (List.cons_ne_nil _ _) (by simp) rfl, State.offered_room _ (by exact hroom), ← ha]
  rfl

end Sys2Proof.Machine
end

section
/-! Proofs: dispatch (R168 to R172): the outcome of each request's work, the one reply of every request, the replies of fault
entries and unknown kinds, RESET, and the frame sent. -/

namespace Sys2Proof.Machine

/-! ### Taking an entry (R169) -/

theorem State.Takes.of_take {s s1 : State} {e : FifoEntry} (h : s.take e = some s1) : s.Takes e s.link.fifo.tail := by
  obtain ⟨⟨hphase, hrun, hroom, hfront⟩, -⟩ := State.take_eq_some.mp h
  exact ⟨hphase, hrun, hroom, (List.cons_head?_tail hfront).symm⟩

theorem State.take_eq_none {s : State} {e : FifoEntry} (h : ∀ rest, ¬s.Takes e rest) : s.take e = none :=
  Option.eq_none_iff_forall_ne_some.mpr fun _ htake => h _ (.of_take htake)

theorem State.Takes.take {s : State} {e : FifoEntry} {rest : List FifoEntry} (h : s.Takes e rest) :
    s.take e = some { s with link := { s.link with fifo := rest } } := by
  obtain ⟨hphase, hrun, hroom, hfifo⟩ := h
  exact State.take_front hphase hrun hroom hfifo

section
variable {α : Type} {kind seq : Byte} {payload : List Byte} {parse : List Byte → Option α}
  {work : α → State → State × Reply} {s : State} {rest : List FifoEntry}

/-- A request whose entry cannot be taken waits (log 1). -/
theorem dispatch_waits (h : ∀ rest, ¬s.Takes (.frame kind seq payload) rest) :
    dispatch kind seq payload parse work s = s := by
  simp only [dispatch, State.take_eq_none h]

/-- A payload of no legal length is answered BAD_LENGTH (R170 step 3). -/
theorem dispatch_badLength (h : s.Takes (.frame kind seq payload) rest) (hp : parse payload = none) :
    dispatch kind seq payload parse work s = s.answered rest (replyTo kind seq .badLength []) := by
  simp only [dispatch, h.take, hp]
  rfl

end

/-! ### What a request's work gives back (R170 step 4) -/

/-- The work of a block on a state: carried out, with one of the replies that answer a request done, or refused, with a bare
reply and the state as it was. -/
inductive WorkOutcome (s : State) : State × Reply → Prop
  | done (t : State) (r : Reply) (h : r.code ∈ [ReplyCode.ok, .accepted, .duplicateTag]) : WorkOutcome s (t, r)
  | refused (c : ReplyCode) (h : c ≠ .badLength) : WorkOutcome s (s, .bare c)

theorem WorkOutcome.ok {s : State} (t : State) (p : List Byte) : WorkOutcome s (t, .ok p) := .done t _ List.mem_cons_self

theorem WorkOutcome.ne_badLength {s : State} {w : State × Reply} (h : WorkOutcome s w) : w.2.code ≠ .badLength := by
  cases h with
  | done t r h =>
    intro e
    rw [show r.code = .badLength from e] at h
    exact absurd h (by decide)
  | refused c h => exact h

theorem WorkOutcome.badField (s : State) : WorkOutcome s (s, .bare .badField) := .refused _ (by decide)

theorem engineModeWork_outcome (a : Byte) (s : State) : WorkOutcome s (engineModeWork a s) := by
  unfold engineModeWork
  split
  · exact .ok _ _
  · exact .badField s

theorem noteWork_outcome (a : Byte × Byte) (s : State) : WorkOutcome s (noteWork a s) := by
  unfold noteWork
  split
  · exact .badField s
  · exact .ok _ _

theorem setScaleWork_outcome (a : Byte × Byte × Byte) (s : State) : WorkOutcome s (setScaleWork a s) := by
  unfold setScaleWork
  split
  · exact .badField s
  · exact .ok _ _

theorem setTemplateWork_outcome (a : Byte × Byte × Byte × Byte) (s : State) : WorkOutcome s (setTemplateWork a s) := by
  unfold setTemplateWork
  split
  · exact .badField s
  · exact .ok _ _

theorem chordPolicyWork_outcome (a : Byte) (s : State) : WorkOutcome s (chordPolicyWork a s) := by
  unfold chordPolicyWork
  split
  · exact .ok _ _
  · exact .badField s

theorem clearNoticesWork_outcome (a : Byte × Byte) (s : State) : WorkOutcome s (clearNoticesWork a s) := by
  unfold clearNoticesWork
  split
  · exact .ok _ _
  · exact .badField s

theorem loadSceneWork_outcome (a : Byte × Byte) (s : State) : WorkOutcome s (loadSceneWork a s) := by
  unfold loadSceneWork
  dsimp only
  split
  · exact .badField s
  split
  · exact .ok _ _
  · exact .ok _ _
  · exact .refused _ (by decide)
  · exact .refused _ (by decide)

theorem loadInlineWork_outcome (p : List Byte) (s : State) : WorkOutcome s (loadInlineWork p s) := by
  unfold loadInlineWork
  split
  · exact .badField s
  · exact .ok _ _

theorem editWork_outcome (a : Byte × Byte × Byte × Byte) (s : State) : WorkOutcome s (editWork a s) := by
  unfold editWork
  dsimp only
  split
  · exact .badField s
  · exact .ok _ _

theorem overlayOnWork_outcome (a : Byte) (s : State) : WorkOutcome s (overlayOnWork a s) := by
  unfold overlayOnWork
  split
  · exact .badField s
  split
  · exact .refused _ (by decide)
  split
  · exact .refused _ (by decide)
  · exact .ok _ _

theorem overlayOffWork_outcome (a : Unit) (s : State) : WorkOutcome s (overlayOffWork a s) := by
  unfold overlayOffWork
  dsimp only
  split <;> exact .ok _ _

theorem overlayWriteWork_outcome (p : List Byte) (s : State) : WorkOutcome s (overlayWriteWork p s) := by
  unfold overlayWriteWork
  dsimp only
  split
  · exact .badField s
  split
  · exact .badField s
  · exact .ok _ _

/-- The refusals of a source are BUSY and NOT VALID (R140). -/
theorem State.enqueueScene_error {s : State} {src : EnqueueSource} {c : ReplyCode} (h : s.enqueueScene src = .error c) :
    c ≠ .badLength := by
  unfold State.enqueueScene at h
  split at h
  · cases h
  · split at h <;> cases h <;> decide

theorem enqueueWork_outcome (f : EnqueueFields) (s : State) : WorkOutcome s (enqueueWork f s) := by
  unfold enqueueWork
  split
  · exact .badField s
  split
  · exact .done _ _ (by simp)
  split
  · exact .refused _ (by decide)
  split
  · next h => exact .refused _ (State.enqueueScene_error h)
  · exact .ok _ _

theorem beatWork_outcome (a : Unit) (s : State) : WorkOutcome s (beatWork a s) := by
  unfold beatWork
  split
  · exact .refused _ (by decide)
  dsimp only
  split
  · exact .ok _ _
  split <;> exact .ok _ _

theorem fireWork_outcome (a : Unit) (s : State) : WorkOutcome s (fireWork a s) := by
  unfold fireWork
  split
  · exact .refused _ (by decide)
  dsimp only
  split <;> exact .ok _ _

theorem cancelWork_outcome (a : Byte) (s : State) : WorkOutcome s (cancelWork a s) := by
  unfold cancelWork
  split
  · exact .badField s
  split
  · exact .refused _ (by decide)
  · exact .ok _ _

/-- Checks 3 to 7 of R157 refuse with codes of their own. -/
theorem State.startRefusal_ne_badLength {s : State} {c : ReplyCode} (h : s.startRefusal = some c) : c ≠ .badLength := by
  rw [State.startRefusal_eq] at h
  split_ifs at h <;> cases h <;> decide

theorem programWork_outcome (p : List Byte) (s : State) : WorkOutcome s (programWork p s) := by
  unfold programWork
  dsimp only
  split
  · exact .badField s
  split
  · exact .badField s
  split
  · next h => exact .refused _ (State.startRefusal_ne_badLength h)
  split
  · exact .refused _ (by decide)
  · exact .done _ _ (by simp)

theorem eraseWork_outcome (a : Byte) (s : State) : WorkOutcome s (eraseWork a s) := by
  unfold eraseWork
  split
  · exact .badField s
  split
  · next h => exact .refused _ (State.startRefusal_ne_badLength h)
  · exact .done _ _ (by simp)

theorem freezeWork_outcome (a : Unit) (s : State) : WorkOutcome s (freezeWork a s) := by
  unfold freezeWork
  split
  · exact .refused _ (by decide)
  · exact .ok _ _

theorem readSlotReport_outcome (a : Byte × Byte) (s : State) : WorkOutcome s (s, readSlotReport a s) := by
  unfold readSlotReport
  dsimp only
  split
  · exact .badField s
  split
  · exact .ok _ _
  split
  · exact .refused _ (by decide)
  · exact .ok _ _

theorem overlayReadReport_outcome (a : Byte) (s : State) : WorkOutcome s (s, overlayReadReport a s) := by
  unfold overlayReadReport
  split
  · exact .badField s
  · exact .ok _ _

/-! ### The payloads' lengths (R170 step 3) -/

section
variable (p : List Byte)

theorem isSome_noPayload : (noPayload p).isSome = decide (p.length = 0) := by
  rcases p with _ | ⟨a, p⟩ <;> simp [noPayload]

theorem isSome_onePayload : (onePayload p).isSome = decide (p.length = 1) := by
  rcases p with _ | ⟨a, _ | ⟨b, p⟩⟩ <;> simp [onePayload]

theorem isSome_twoPayload : (twoPayload p).isSome = decide (p.length = 2) := by
  rcases p with _ | ⟨a, _ | ⟨b, _ | ⟨c, p⟩⟩⟩ <;> simp [twoPayload]

theorem isSome_threePayload : (threePayload p).isSome = decide (p.length = 3) := by
  rcases p with _ | ⟨a, _ | ⟨b, _ | ⟨c, _ | ⟨d, p⟩⟩⟩⟩ <;> simp [threePayload]

theorem isSome_fourPayload : (fourPayload p).isSome = decide (p.length = 4) := by
  rcases p with _ | ⟨a, _ | ⟨b, _ | ⟨c, _ | ⟨d, _ | ⟨e, p⟩⟩⟩⟩⟩ <;> simp [fourPayload]

theorem isSome_lengthPayload (n : Nat) : (lengthPayload n p).isSome = decide (p.length = n) := by
  unfold lengthPayload
  split <;> simp [*]

/-- ENQUEUE CUE has eight bytes or, with a record, 66: a source byte 0 allows the first alone, and 1 the second. -/
theorem isSome_enqueuePayload : (enqueuePayload p).isSome = legalLength 0x40 p := by
  rcases p with _ | ⟨t, _ | ⟨src, _ | ⟨b, _ | ⟨i, _ | ⟨tr, _ | ⟨n, _ | ⟨la, _ | ⟨d, record⟩⟩⟩⟩⟩⟩⟩⟩
  case cons.cons.cons.cons.cons.cons.cons.cons =>
    rw [Bool.eq_iff_iff]
    by_cases h0 : src = 0#8
    · subst h0
      simp [enqueuePayload, legalLength, byteAt]
    by_cases h1 : src = 1#8
    · subst h1
      simp [enqueuePayload, legalLength, byteAt]
    · simp [enqueuePayload, legalLength, byteAt, h0, h1]
  all_goals rfl

end

/-! ### Every request -/

/-- What the catalogue promises of a request row: without its entry it waits, a payload of a wrong length is answered
BAD_LENGTH, and any other leaves the FIFO with one reply (R169, R170). -/
def AnsweredOnce (i : Instr) (kind seq : Byte) (payload : List Byte) (s : State) : Prop :=
  ((∀ rest, ¬s.Takes (.frame kind seq payload) rest) → exec i s = .next s) ∧
    ∀ rest, s.Takes (.frame kind seq payload) rest →
      (legalLength kind payload = false → exec i s = .next (s.answered rest (replyTo kind seq .badLength []))) ∧
        (legalLength kind payload = true → ∃ t c p, exec i s = .next t ∧ c ≠ ReplyCode.badLength ∧
          (t.link.fifo = rest ∧ t.link.replies = s.link.replies ++ [replyTo kind seq c p] ∧
            t.link.assembler = s.link.assembler ∧ t.link.highRate = s.link.highRate) ∧
          (c ≠ .ok → c ≠ .accepted → c ≠ .duplicateTag → t = s.answered rest (replyTo kind seq c [])))

section
variable {i : Instr} {α : Type} {kind seq : Byte} {payload : List Byte} {parse : List Byte → Option α} {s : State}

/-- A dispatch keeps the promise where its parser knows the legal lengths and its work, which may stop dispatch but leaves the
link otherwise alone, is carried out or refused. -/
theorem answeredOnce_of_dispatch {work : α → State → State × Reply}
    (hexec : exec i s = .next (dispatch kind seq payload parse work s))
    (hparse : (parse payload).isSome = legalLength kind payload)
    (hlink : ∀ a u, ∃ stopped, (work a u).1.link = { u.link with stopped := stopped })
    (hwork : ∀ a u, WorkOutcome u (work a u)) : AnsweredOnce i kind seq payload s := by
  rw [AnsweredOnce, hexec]
  refine ⟨fun hwaits => ?_, fun rest htakes => ⟨fun hbad => ?_, fun hlegal => ?_⟩⟩
  · rw [dispatch_waits hwaits]
  · rw [dispatch_badLength htakes (by simpa [hbad] using hparse)]
  · obtain ⟨a, ha⟩ := Option.isSome_iff_exists.mp (hparse.trans hlegal)
    obtain ⟨stopped, hl⟩ := hlink a { s with link := { s.link with fifo := rest } }
    have hu := hwork a { s with link := { s.link with fifo := rest } }
    obtain ⟨hphase, hrun, hroom, hfifo⟩ := htakes
    rw [dispatch_taken hphase hrun hroom hfifo ha]
    generalize work a { s with link := { s.link with fifo := rest } } = w at hu hl ⊢
    refine ⟨_, w.2.code, w.2.payload, rfl, hu.ne_badLength, ?_, ?_⟩
    · rw [State.answer_link, hl]
      exact ⟨rfl, rfl, rfl, rfl⟩
    · intro hok haccepted hduplicate
      cases hu with
      | done t r h => simp [hok, haccepted, hduplicate] at h
      | refused c h => rfl

/-- The same of a work that leaves the link alone. -/
theorem answeredOnce_of_work {work : α → State → State × Reply}
    (hexec : exec i s = .next (dispatch kind seq payload parse work s))
    (hparse : (parse payload).isSome = legalLength kind payload) (hlink : ∀ a u, (work a u).1.link = u.link)
    (hwork : ∀ a u, WorkOutcome u (work a u)) : AnsweredOnce i kind seq payload s :=
  answeredOnce_of_dispatch hexec hparse (fun a u => ⟨u.link.stopped, hlink a u⟩) hwork

/-- A reading request keeps the promise where its report is no BAD_LENGTH and carries nothing where it refuses. -/
theorem answeredOnce_of_report {report : α → State → Reply}
    (hexec : exec i s = .next (dispatchRead kind seq payload parse report s))
    (hparse : (parse payload).isSome = legalLength kind payload)
    (hwork : ∀ a u, WorkOutcome u (u, report a u)) : AnsweredOnce i kind seq payload s :=
  answeredOnce_of_work hexec hparse (fun _ _ => rfl) hwork

end

/-- The promise of the catalogue, row by row: the parser of the row's lengths, the frame of its work, the work's outcome. -/
theorem request_answeredOnce {i : Instr} {kind seq : Byte} {payload : List Byte} (s : State)
    (h : request? i = some (kind, seq, payload)) : AnsweredOnce i kind seq payload s := by
  cases i with
  | getStatus _ _ | monitor _ _ | readSetup _ _ | readContext _ _ | readWorkingScene _ _ | listCues _ _ | readNotices _ _ =>
    cases h; exact answeredOnce_of_report rfl (isSome_noPayload _) fun _ u => .ok u _
  | readSlot _ _ => cases h; exact answeredOnce_of_report rfl (isSome_twoPayload _) readSlotReport_outcome
  | overlayRead _ _ => cases h; exact answeredOnce_of_report rfl (isSome_onePayload _) overlayReadReport_outcome
  | reset _ _ => cases h; exact answeredOnce_of_dispatch rfl (isSome_noPayload _) (fun _ _ => ⟨true, rfl⟩) fun _ _ => .ok _ _
  | storeStatus _ _ =>
    cases h
    exact answeredOnce_of_work rfl (isSome_noPayload _) (fun _ _ => by rw [storeStatusWork, State.passToStatus_frame])
      fun _ _ => .ok _ _
  | setEngineMode _ _ =>
    cases h
    exact answeredOnce_of_work rfl (isSome_onePayload _) (fun _ _ => by rw [engineModeWork_frame]) engineModeWork_outcome
  | setTuning _ _ =>
    cases h
    exact answeredOnce_of_work rfl (isSome_twoPayload _) (fun _ _ => by rw [tuningWork_frame]) fun _ _ => .ok _ _
  | setTracker _ _ =>
    cases h
    exact answeredOnce_of_work rfl (isSome_lengthPayload _ _) (fun _ _ => by rw [trackerWork_frame]) fun _ _ => .ok _ _
  | note _ _ =>
    cases h
    exact answeredOnce_of_work rfl (isSome_twoPayload _) (fun _ _ => by rw [noteWork_frame]) noteWork_outcome
  | notesClear _ _ =>
    cases h
    exact answeredOnce_of_work rfl (isSome_noPayload _) (fun _ _ => by rw [notesClearWork_frame]) fun _ _ => .ok _ _
  | setScale _ _ =>
    cases h
    exact answeredOnce_of_work rfl (isSome_threePayload _) (fun _ _ => by rw [setScaleWork_frame]) setScaleWork_outcome
  | setTemplate _ _ =>
    cases h
    exact answeredOnce_of_work rfl (isSome_fourPayload _) (fun _ _ => by rw [setTemplateWork_frame]) setTemplateWork_outcome
  | setChordPolicy _ _ =>
    cases h
    exact answeredOnce_of_work rfl (isSome_onePayload _) (fun _ _ => by rw [chordPolicyWork_frame]) chordPolicyWork_outcome
  | loadScene _ _ =>
    cases h
    exact answeredOnce_of_work rfl (isSome_twoPayload _) (fun _ _ => by rw [loadSceneWork_frame]) loadSceneWork_outcome
  | loadInlineScene _ _ =>
    cases h
    exact answeredOnce_of_work rfl (isSome_lengthPayload _ _) (fun _ _ => by rw [loadInlineWork_frame]) loadInlineWork_outcome
  | editWorkingScene _ _ =>
    cases h
    exact answeredOnce_of_work rfl (isSome_fourPayload _) (fun _ _ => by rw [editWork_frame]) editWork_outcome
  | enqueueCue _ _ =>
    cases h
    exact answeredOnce_of_work rfl (isSome_enqueuePayload _) (fun _ _ => by rw [enqueueWork_frame]) enqueueWork_outcome
  | fire _ _ =>
    cases h
    exact answeredOnce_of_work rfl (isSome_noPayload _) (fun _ _ => by rw [fireWork_frame]) fireWork_outcome
  | cancelCue _ _ =>
    cases h
    exact answeredOnce_of_work rfl (isSome_onePayload _) (fun _ _ => by rw [cancelWork_frame]) cancelWork_outcome
  | clearCues _ _ =>
    cases h
    exact answeredOnce_of_work rfl (isSome_noPayload _) (fun _ _ => by rw [clearCuesWork_frame]) fun _ _ => .ok _ _
  | readCueResults _ _ =>
    cases h
    exact answeredOnce_of_work rfl (isSome_noPayload _) (fun _ _ => by rw [readResultsWork_frame]) fun _ _ => .ok _ _
  | beat _ _ =>
    cases h
    exact answeredOnce_of_work rfl (isSome_noPayload _) (fun _ _ => by rw [beatWork_frame]) beatWork_outcome
  | programSlot _ _ =>
    cases h
    exact answeredOnce_of_work rfl (isSome_lengthPayload _ _) (fun _ _ => by rw [programWork_frame]) programWork_outcome
  | eraseBank _ _ =>
    cases h
    exact answeredOnce_of_work rfl (isSome_onePayload _) (fun _ _ => by rw [eraseWork_frame]) eraseWork_outcome
  | freezeStore _ _ =>
    cases h
    exact answeredOnce_of_work rfl (isSome_noPayload _) (fun _ _ => by rw [freezeWork_frame]) freezeWork_outcome
  | overlayOn _ _ =>
    cases h
    exact answeredOnce_of_work rfl (isSome_onePayload _) (fun _ _ => by rw [overlayOnWork_frame]) overlayOnWork_outcome
  | overlayOff _ _ =>
    cases h
    exact answeredOnce_of_work rfl (isSome_noPayload _) (fun _ _ => by rw [overlayOffWork_frame]) overlayOffWork_outcome
  | overlayWrite _ _ =>
    cases h
    exact answeredOnce_of_work rfl (isSome_lengthPayload _ _) (fun _ _ => by rw [overlayWriteWork_frame]) overlayWriteWork_outcome
  | clearNotices _ _ =>
    cases h
    exact answeredOnce_of_work rfl (isSome_twoPayload _) (fun _ _ => by rw [clearNoticesWork_frame]) clearNoticesWork_outcome
  | configureNotices _ _ =>
    cases h
    exact answeredOnce_of_work rfl (isSome_lengthPayload _ _) (fun _ _ => by rw [configureWork_frame]) fun _ _ => .ok _ _
  | _ => cases h

/-- Settles O32: a request row is the dispatch of its frame, and each row keeps the promise. -/
theorem everyRequestAnsweredOnce : Obligations.EveryRequestAnsweredOnce := by
  unfold Obligations.EveryRequestAnsweredOnce
  exact fun _ _ _ _ s h => request_answeredOnce s h


/-! ### Kinds, frames and the replies of the dispatch stage (R168, R170, 9.2, 9.5) -/

theorem requestKinds_lt {k : Byte} (h : k ∈ requestKinds) : k.toNat < 0x80 := by
  have hall : ∀ k ∈ requestKinds, k.toNat < 0x80 := by decide
  exact hall k h

/-- One row of each request, in the order of the catalogue (9.5). -/
def requestRows : List Instr :=
  [.getStatus 0 [], .monitor 0 [], .reset 0 [], .setEngineMode 0 [], .setTuning 0 [], .setTracker 0 [], .readSetup 0 [],
    .note 0 [], .notesClear 0 [], .setScale 0 [], .setTemplate 0 [], .setChordPolicy 0 [], .readContext 0 [],
    .loadScene 0 [], .loadInlineScene 0 [], .editWorkingScene 0 [], .readWorkingScene 0 [], .enqueueCue 0 [], .fire 0 [],
    .cancelCue 0 [], .clearCues 0 [], .listCues 0 [], .readCueResults 0 [], .beat 0 [], .readSlot 0 [], .programSlot 0 [],
    .eraseBank 0 [], .storeStatus 0 ⟨[], 0⟩, .freezeStore 0 [], .overlayOn 0 [], .overlayOff 0 [], .overlayWrite 0 [],
    .overlayRead 0 [], .readNotices 0 [], .clearNotices 0 [], .configureNotices 0 []]

theorem request?_requestRows : requestRows.map request? = requestKinds.map fun k => some (k, 0, []) := rfl

theorem mem_requestKinds_of_request? {i : Instr} {kind seq : Byte} {payload : List Byte}
    (h : request? i = some (kind, seq, payload)) : kind ∈ requestKinds := by
  cases i <;> cases h <;> decide

/-- The kinds of the catalogue are those of the request rows. -/
theorem mem_requestKinds_iff {kind : Byte} :
    kind ∈ requestKinds ↔ ∃ i seq payload, request? i = some (kind, seq, payload) := by
  constructor
  · intro h
    have hrow : some (kind, 0, []) ∈ requestRows.map request? := by
      rw [request?_requestRows]
      exact List.mem_map.mpr ⟨kind, h, rfl⟩
    obtain ⟨i, -, hi⟩ := List.mem_map.mp hrow
    exact ⟨i, 0, [], hi⟩
  · rintro ⟨i, seq, payload, h⟩
    exact mem_requestKinds_of_request? h

/-- A frame sent with a reply code: the length counts kind, sequence, code and payload (9.2). -/
theorem ReplyFrame.bytes_of_code {f : ReplyFrame} {code : Byte} (h : f.code = some code) :
    f.bytes = 0x7E :: BitVec.ofNat 8 (3 + f.payload.length) :: f.kind :: f.seq :: code :: f.payload := by
  simp [ReplyFrame.bytes, h, byteOfNat, Nat.add_comm 3]

/-- A frame sent without a reply code, as READY is (R173). -/
theorem ReplyFrame.bytes_of_no_code {f : ReplyFrame} (h : f.code = none) :
    f.bytes = 0x7E :: BitVec.ofNat 8 (2 + f.payload.length) :: f.kind :: f.seq :: f.payload := by
  simp [ReplyFrame.bytes, h, byteOfNat, Nat.add_comm 2]

section
variable {rest : List FifoEntry} {s : State}

theorem exec_badFrame {cause : ReceiveFault} (h : s.Takes (.fault cause) rest) :
    exec (.badFrame cause) s = .next (s.answered rest (badFrameReply cause)) := by
  rw [exec, execBadFrame, h.take]
  rfl

theorem exec_unknownKind {kind seq : Byte} {payload : List Byte} (h : s.Takes (.frame kind seq payload) rest)
    (hkind : kind ∉ requestKinds) :
    exec (.unknownKind kind seq payload) s = .next (s.answered rest (unknownKindReply kind seq)) := by
  rw [exec, execUnknownKind, if_neg hkind, h.take]
  rfl

theorem exec_reset {seq : Byte} (h : s.Takes (.frame 0x03 seq []) rest) : exec (.reset seq []) s =
    .next { s with link := { s.link.answered rest (replyTo 0x03 seq .ok []) with stopped := true } } := by
  rw [exec, execReset, dispatch, h.take]
  rfl

end

/-- Settles O31: codes and kinds by evaluation, then each reply of the dispatch stage on the entry it takes. -/
theorem linkRepliesAndReset : Obligations.LinkRepliesAndReset := by
  unfold Obligations.LinkRepliesAndReset
  refine ⟨rfl, fun kind => mem_requestKinds_iff, fun f => ?_, fun cause rest s h => ?_,
    fun kind seq payload rest s h => ⟨fun hhigh => ?_, fun hlow hkind => ?_⟩, fun seq rest s h => exec_reset h,
    fun f more s h => ?_⟩
  · cases hcode : f.code with
    | some code => exact ReplyFrame.bytes_of_code hcode
    | none => exact ReplyFrame.bytes_of_no_code hcode
  · rw [exec_badFrame h]
    cases cause <;> rfl
  · rw [exec_unknownKind h fun hkind => absurd (requestKinds_lt hkind) (by omega), unknownKindReply, if_pos hhigh]
    rfl
  · rw [exec_unknownKind h hkind, unknownKindReply, if_neg (by omega)]
    rfl
  · rw [exec, execTransmitComplete, h, List.tail_cons]

end Sys2Proof.Machine
end

section
/-! Proofs: every command keeps the bounds of the request FIFO, the reply queue and the assembler (R167, R169, R171 to R173). -/

namespace Sys2Proof.Machine

/-! ### Offering an entry -/

theorem State.offered_linkOk {s : State} (hs : s.LinkOk) (e : FifoEntry) : (s.offered e).LinkOk := by
  obtain ⟨hfifo, hreplies, -, hstart⟩ := hs
  unfold State.offered
  split
  · next hroom => exact ⟨by simpa using hroom, hreplies, rfl, hstart⟩
  · exact ⟨hfifo, hreplies, rfl, hstart⟩

/-- A byte's effect keeps the bounds where the state it gives the assembler does. -/
theorem State.applyByte_linkOk {s : State} (hs : s.LinkOk) {e : ByteEffect}
    (he : ∀ a, e = .state a → a.Ok = true) : (s.applyByte e).LinkOk := by
  cases e with
  | state a =>
    obtain ⟨hfifo, hreplies, -, hstart⟩ := hs
    exact ⟨hfifo, hreplies, he a rfl, hstart⟩
  | frame k q p => exact State.offered_linkOk hs _
  | fault c => exact State.offered_linkOk hs _

theorem State.byteEffect_ok {s : State} (hs : s.LinkOk) {b : Byte} {stopError : Bool} {a : Assembler}
    (h : s.byteEffect b stopError = .state a) : a.Ok = true := by
  obtain ⟨-, -, hassembler, -⟩ := hs
  unfold State.byteEffect at h
  split at h
  · cases h
    exact hassembler
  · exact Sys2Proof.Machine.byteEffect_ok hassembler h

/-! ### Taking an entry and answering -/

/-- An entry taken and answered keeps the bounds: the part is up, and the reply queue had room. -/
theorem State.Takes.linkOk {s t : State} {e : FifoEntry} {rest : List FifoEntry} {f : ReplyFrame} (h : s.Takes e rest)
    (hs : s.LinkOk) (hphase : t.start = s.start) (hfifo : t.link.fifo = rest)
    (hreplies : t.link.replies = s.link.replies ++ [f]) (hassembler : t.link.assembler = s.link.assembler) : t.LinkOk := by
  obtain ⟨hup, -, hroom, hfront⟩ := h
  obtain ⟨hfour, -, hok, -⟩ := hs
  rw [hfront, List.length_cons] at hfour
  refine ⟨by rw [hfifo]; omega, by rw [hreplies, List.length_append, List.length_singleton]; omega, by rw [hassembler, hok],
    fun hnot => absurd (hphase ▸ hup) hnot⟩

theorem State.take_queueFrame_linkOk {s s1 : State} (hs : s.LinkOk) {e : FifoEntry} (h : s.take e = some s1) (f : ReplyFrame) :
    (s1.queueFrame f).LinkOk := by
  have htakes := State.Takes.of_take h
  obtain ⟨-, rfl⟩ := State.take_eq_some.mp h
  exact htakes.linkOk hs rfl rfl rfl rfl

/-- No request row changes the start-up. -/
theorem start_notMem_mayChange {i : Instr} {f : Byte × Byte × List Byte} (h : request? i = some f) :
    Block.start ∉ mayChange i := by
  cases i <;> cases h <;> exact of_decide_eq_true rfl

/-- A request waits, or takes its entry and adds one reply (O32); either way the bounds hold. -/
theorem exec_request_linkOk {i : Instr} {kind seq : Byte} {payload : List Byte} {s t : State} (hs : s.LinkOk)
    (hreq : request? i = some (kind, seq, payload)) (h : exec i s = .next t) : t.LinkOk := by
  obtain ⟨hwaits, htaken⟩ := request_answeredOnce s hreq
  by_cases htakes : ∃ rest, s.Takes (.frame kind seq payload) rest
  · obtain ⟨rest, htakes⟩ := htakes
    obtain ⟨hbad, hlegal⟩ := htaken rest htakes
    have hstart : t.start = s.start := (exec_changesOnly h).2 .start (start_notMem_mayChange hreq)
    cases hlength : legalLength kind payload with
    | false =>
      cases h.symm.trans (hbad hlength)
      exact htakes.linkOk hs rfl rfl rfl rfl
    | true =>
      obtain ⟨u, c, p, hu, -, ⟨hfifo, hreplies, hassembler, -⟩, -⟩ := hlegal hlength
      cases h.symm.trans hu
      exact htakes.linkOk hs hstart hfifo hreplies hassembler
  · cases h.symm.trans (hwaits (not_exists.mp htakes))
    exact hs

/-! ### Every command -/

theorem State.takeReset_linkOk (s : State) (kind : ResetKind) (high : Bool) (phase : StartPhase) :
    (s.takeReset kind high phase).LinkOk :=
  ⟨Nat.zero_le 4, Nat.zero_le 4, rfl, fun _ => ⟨rfl, rfl⟩⟩

theorem State.startEngine_link (s : State) (ramFault : Bool) : (s.startEngine ramFault).link = s.link := by
  rw [State.startEngine_frame]

/-- The end of the self-check queues READY on the empty reply queue (R173). -/
theorem execSelfCheckEnd_linkOk {ramFault storeUnreadable : Bool} {s t : State} (hs : s.LinkOk)
    (h : execSelfCheckEnd ramFault storeUnreadable s = .next t) : t.LinkOk := by
  cases h
  split
  · next hphase =>
    obtain ⟨hfifo, -, hassembler, hstart⟩ := hs
    obtain ⟨hempty, -⟩ := hstart (by rw [hphase]; decide)
    have hlink : (State.startEngine (if storeUnreadable then s.storeUnreadable else s) ramFault).link = s.link := by
      rw [State.startEngine_link]
      split <;> rfl
    simp only [State.LinkOk, State.queueFrame_link, State.queueFrame_start, hlink, hempty]
    exact ⟨hfifo, by simp, hassembler, fun hnot => absurd rfl hnot⟩
  · exact hs

/-- The bounds where neither the link nor the start-up changes. -/
theorem State.linkOk_of_changesOnly {l : List Block} {s t : State} (hs : s.LinkOk) (h : s.ChangesOnly l t)
    (hl : [Block.link, .start].all (· ∉ l) = true) : t.LinkOk := by
  simp only [List.all_cons, List.all_nil, Bool.and_eq_true, decide_eq_true_eq, and_true] at hl
  obtain ⟨hlink, hstart⟩ := hl
  have elink : t.link = s.link := h.2 _ hlink
  have estart : t.start = s.start := h.2 _ hstart
  rw [State.LinkOk, elink, estart]
  exact hs

/-- Every command keeps the bounds of the link. -/
theorem exec_linkOk {c : Instr} {s t : State} (hs : s.LinkOk) (h : exec c s = .next t) : t.LinkOk := by
  cases c with
  | powerOnReset _ | pinReset _ => cases h; exact State.takeReset_linkOk ..
  | softReset _ =>
    cases h
    split
    · exact State.takeReset_linkOk ..
    · exact hs
  | resetnRelease =>
    cases h
    split
    · next hheld =>
      obtain ⟨hfifo, hreplies, hassembler, hstart⟩ := hs
      exact ⟨hfifo, hreplies, hassembler, fun _ => hstart (by rw [hheld]; decide)⟩
    · exact hs
  | selfCheckEnd _ _ => exact execSelfCheckEnd_linkOk hs h
  | receivedByte _ _ => cases h; exact State.applyByte_linkOk hs fun _ => State.byteEffect_ok hs
  | frameReceived _ | receiveFault _ _ =>
    cases h
    split
    · exact State.offered_linkOk hs _
    · exact hs
  | receiveGapTimeout =>
    cases h
    split
    · exact hs
    · exact State.offered_linkOk hs _
  | badFrame _ =>
    cases h
    split
    · next htake => exact State.take_queueFrame_linkOk hs htake _
    · exact hs
  | unknownKind _ _ _ =>
    cases h
    split
    · exact hs
    split
    · next htake => exact State.take_queueFrame_linkOk hs htake _
    · exact hs
  | transmitComplete =>
    cases h
    obtain ⟨hfifo, hreplies, hassembler, hstart⟩ := hs
    refine ⟨hfifo, by rw [List.length_tail]; omega, hassembler, fun hnot => ?_⟩
    obtain ⟨hempty, hrun⟩ := hstart hnot
    exact ⟨by rw [hempty, List.tail_nil], hrun⟩
  | sampleEvent _ | frameCompletion _ | phraseStart | clockGapTimeout | measurementWindowEnd | frameClockEdge
  | programmingVoltageReady _ | storePulseVerify _ | erasePulseVerify _ | timerExpiry | supplyLoss _ | storeSupplyRestored =>
    exact State.linkOk_of_changesOnly hs (exec_changesOnly h) rfl
  | _ => exact exec_request_linkOk hs rfl h

/-- Settles O57: receive events meet a FIFO of four, requests a reply queue with room, and READY an empty one. -/
theorem linkBoundsKept : Obligations.LinkBoundsKept := by
  unfold Obligations.LinkBoundsKept
  exact fun s t hs h => step_keeps (P := State.LinkOk) (fun _ _ h => h) (fun _ _ _ => exec_linkOk) hs h

end Sys2Proof.Machine
end

section
/-! Proofs: the Notice Unit's table of sources, CLEAR NOTICES, CONFIGURE NOTICES, and ATTN (10.1, R175, R176, R178, R179). -/

namespace Sys2Proof.Machine

/-! ### The table of sources (10.1) -/

/-- The sixteen sources, group by group. -/
def noticeSources : List Source :=
  [.storeFault, .audioClock, .linkOverrun, .cueLanded, .cueDiscarded, .resultsOverflow, .storeDone, .storeFailed,
    .phraseStart, .phraseEnd, .chordChanged, .chordUnrecognized, .setOverflow, .shortCrossfade, .clip, .outOfReach]

theorem mem_noticeSources (src : Source) : src ∈ noticeSources := by
  cases src <;> decide

theorem Source.bit_ne_zero (src : Source) : src.bit ≠ 0 := by
  cases src <;> decide

/-- Two sources of one group have different bits. -/
theorem Source.bit_and_bit_of_ne {a b : Source} (hne : a ≠ b) (hg : a.group = b.group) : a.bit &&& b.bit = 0 := by
  have hall : ∀ a ∈ noticeSources, ∀ b ∈ noticeSources, a ≠ b → a.group = b.group → a.bit &&& b.bit = 0 := by decide
  exact hall a (mem_noticeSources a) b (mem_noticeSources b) hne hg

theorem groupSources_succ (i : Fin 5) : groupSources i.succ = if i = 1 ∨ i = 2 then 3 else 7 := by
  revert i
  decide

/-! ### Levels and enabled sets (R175) -/

@[simp] theorem Notices.enabledOf_zero (u : Notices) : u.enabledOf 0 = 7 := rfl
@[simp] theorem Notices.levelOf_zero (u : Notices) : u.levelOf 0 = 8 := rfl

theorem Notices.enabledOf_succ (u : Notices) (i : Fin 5) : u.enabledOf i.succ = u.enabled[i] := by
  simp [Notices.enabledOf, Fin.succ_ne_zero]

theorem Notices.levelOf_succ (u : Notices) (i : Fin 5) : u.levelOf i.succ = u.levels[i] := by
  simp [Notices.levelOf, Fin.succ_ne_zero]

/-! ### Raising a source, and ATTN (R175, R176) -/

theorem Notices.raise_pending (u : Notices) (src : Source) (g : Fin 6) :
    (u.raise src).pending[g] = if g = src.group then u.pending[g] ||| src.bit else u.pending[g] := by
  rw [Fin.getElem_fin, raise_pending_getElem u src g.isLt]
  simp only [Fin.val_inj, eq_comm (a := g), Fin.getElem_fin]

theorem Notices.isPending_raise_self (u : Notices) (src : Source) : (u.raise src).isPending src = true := by
  rw [isPending, raise_pending, if_pos rfl, BitVec.and_comm, BitVec.and_or_distrib_left, BitVec.and_self, decide_eq_true_iff]
  exact fun h => src.bit_ne_zero (BitVec.or_eq_zero_iff.mp h).2

/-- Raising a source leaves the others as they were: another group's set is not touched, and in the same group the bits
differ. -/
theorem Notices.isPending_raise_of_ne (u : Notices) {src other : Source} (hne : src ≠ other) :
    (u.raise src).isPending other = u.isPending other := by
  have hset : (u.raise src).pending[other.group] &&& other.bit = u.pending[other.group] &&& other.bit := by
    rw [raise_pending]
    split
    · next hg =>
      rw [BitVec.and_comm, BitVec.and_or_distrib_left, BitVec.and_comm _ src.bit, Source.bit_and_bit_of_ne hne hg.symm,
        BitVec.and_comm]
      exact BitVec.or_zero
    · rfl
  rw [isPending, isPending, hset]

theorem Notices.attnLow_iff {u : Notices} :
    u.attnLow = true ↔ ∃ g : Fin 6, u.pending[g] &&& u.enabledOf g ≠ 0 ∧ (g = 0 ∨ u.mask < u.levelOf g) := by
  simp only [attnLow, List.any_eq_true, mem_noticeGroups, true_and, attention_iff]

/-! ### CLEAR NOTICES and CONFIGURE NOTICES (R178, R179) -/

section
variable {seq g set : Byte} {p : List Byte} {rest : List FifoEntry} {s : State}

theorem exec_clearNotices (seq : Byte) (p : List Byte) (s : State) :
    exec (.clearNotices seq p) s = .next (dispatch 0x61 seq p twoPayload clearNoticesWork s) := rfl
theorem exec_configureNotices (seq : Byte) (p : List Byte) (s : State) :
    exec (.configureNotices seq p) s = .next (dispatch 0x62 seq p (lengthPayload 11) configureWork s) := rfl

theorem clearNotices_refuses (h : s.Takes (.frame 0x61 seq [g, set]) rest) (hg : 5 < g.toNat) :
    exec (.clearNotices seq [g, set]) s = .next (s.answered rest (replyTo 0x61 seq .badField [])) :=
  exec_answers (exec_clearNotices ..) h s (.bare .badField) (a := (g, set)) rfl (dif_neg (Nat.not_lt.mpr hg))

theorem clearNotices_removes (h : s.Takes (.frame 0x61 seq [g, set]) rest) (hg : g.toNat < 6) :
    exec (.clearNotices seq [g, set]) s = .next ({ s with
      notices := s.notices.clear ⟨g.toNat, hg⟩ (set.extractLsb' 0 3) }.answered rest (replyTo 0x61 seq .ok [])) :=
  exec_answers (exec_clearNotices ..) h { s with notices := s.notices.clear ⟨g.toNat, hg⟩ (set.extractLsb' 0 3) } (.ok [])
    (a := (g, set)) rfl (dif_pos hg)

theorem configureNotices_stores (h : s.Takes (.frame 0x62 seq p) rest) (hp : p.length = 11) :
    exec (.configureNotices seq p) s = .next ({ s with notices := s.notices.configure p }.answered rest
      (replyTo 0x62 seq .ok (s.notices.configure p).configBytes)) :=
  exec_answers (exec_configureNotices ..) h { s with notices := s.notices.configure p }
    (.ok (s.notices.configure p).configBytes) (lengthPayload_eq hp) rfl

end

theorem Notices.configure_levels (u : Notices) (p : List Byte) (i : Fin 5) :
    (u.configure p).levels[i] = min 7 (byteAt p i).toNat := by
  rw [configure, Fin.getElem_fin, Vector.getElem_ofFn, clampNat_eq_max (by decide), Nat.zero_max]
  rfl

theorem Notices.configure_enabled (u : Notices) (p : List Byte) (i : Fin 5) :
    (u.configure p).enabled[i] = (byteAt p (5 + i)).extractLsb' 0 3 &&& (if i = 1 ∨ i = 2 then 3 else 7) := by
  rw [configure, Fin.getElem_fin, Vector.getElem_ofFn, groupSources_succ]

theorem Notices.configure_mask (u : Notices) (p : List Byte) : (u.configure p).mask = min 7 (byteAt p 10).toNat := by
  rw [configure, clampNat_eq_max (by decide), Nat.zero_max]
  rfl

/-- Settles O53: the table by evaluation, each request by its work, then ATTN and the raising of a source. -/
theorem noticesAndAttention : Obligations.NoticesAndAttention := by
  unfold Obligations.NoticesAndAttention
  refine ⟨⟨by decide, fun u => ⟨u.enabledOf_zero, u.levelOf_zero, fun i => ⟨u.enabledOf_succ i, u.levelOf_succ i⟩⟩⟩, ?_, ?_, ?_, ?_⟩
  · exact fun seq g set rest s h => ⟨clearNotices_refuses h, clearNotices_removes h⟩
  · exact fun seq p rest s hp h => ⟨s.notices.configure p, rfl, s.notices.configure_levels p, s.notices.configure_enabled p,
      s.notices.configure_mask p, configureNotices_stores h hp⟩
  · exact fun u => Notices.attnLow_iff
  · exact fun u src other => ⟨u.isPending_raise_self src, u.raise_pending src, u.isPending_raise_of_ne, rfl, rfl, rfl⟩

end Sys2Proof.Machine
end

section
/-! Proofs: the resets and the end of the self-check (R164, R172, R173, R180, R181). -/

namespace Sys2Proof.Machine

/-! ### Taking a reset (R180) -/

/-- A power-on or pin reset gives every block its reset value; the slots and the supply sense of the store stay, the strap is
read, and the commands go on waiting. -/
theorem State.takeReset_of_ne_soft {kind : ResetKind} (hk : kind ≠ .soft) (s : State) (high : Bool) (phase : StartPhase) :
    s.takeReset kind high phase =
      { State.reset with
        store := storeAtReset s.store.array s.store.supplyHigh
        link := { State.reset.link with highRate := high }
        start := ⟨phase, kind⟩
        pending := s.pending } := by
  rw [State.takeReset, decide_eq_false hk]
  rfl

/-- A soft reset keeps tracker settings, tuning, scale table, templates and policy beside them (R22, R44). -/
theorem State.takeReset_soft (s : State) (high : Bool) (phase : StartPhase) :
    s.takeReset .soft high phase =
      { State.reset with
        tracker := restartedTracker s.tracker.settings s.tracker.fRef 0
        key := { s.key with notes := [], context := .none }
        store := storeAtReset s.store.array s.store.supplyHigh
        link := { State.reset.link with highRate := high }
        start := ⟨phase, .soft⟩
        pending := s.pending } := rfl

/-- Settles O5: neither reset is the soft one, so both leave the values of `State.takeReset_of_ne_soft`. -/
theorem powerOnAndPinResets : Obligations.PowerOnAndPinResets := by
  unfold Obligations.PowerOnAndPinResets
  exact fun high s => ⟨congrArg Host.Outcome.next (s.takeReset_of_ne_soft (kind := .powerOn) (by decide) high _),
    congrArg Host.Outcome.next (s.takeReset_of_ne_soft (kind := .pin) (by decide) high _)⟩

/-- Settles O6: each event's guard holds, and the soft reset leaves the values of `State.takeReset_soft`. -/
theorem resetnReleaseAndSoftReset : Obligations.ResetnReleaseAndSoftReset := by
  unfold Obligations.ResetnReleaseAndSoftReset
  refine ⟨fun s hheld => congrArg _ (if_pos hheld), fun high s hup hstopped hsent => ?_⟩
  exact congrArg _ ((if_pos ⟨hup, hstopped, hsent⟩).trans (s.takeReset_soft high .selfCheck))

/-! ### The end of the self-check (R101, R164, R173, R181) -/

/-- The engine's three outcomes at the end of the check, a PRESENT clock restarting the audio blocks (R101, R181). -/
theorem State.startEngine_eq (s : State) (ramFault : Bool) :
    s.startEngine ramFault =
      if ramFault then { s with engine := { s.engine with ring := [], state := .stalled .ramFault } }
      else if s.port.clock = .present then s.restarted
      else { s with engine := { s.engine with ring := [], state := .stalled .clock } } := rfl

/-- What the scan has found in the store does not show in how the engine starts. -/
theorem State.startEngine_with_store_notices (s : State) (st : SceneStore) (u : Notices) (ramFault : Bool) :
    State.startEngine { s with store := st, notices := u } ramFault =
      { s.startEngine ramFault with store := st, notices := u } := by
  unfold State.startEngine
  dsimp only
  split_ifs <;> rfl

/-- All that the scan does where it finds the store unreadable (R164). -/
theorem State.ite_storeUnreadable_eq (s : State) (unreadable : Bool) :
    (if unreadable then s.storeUnreadable else s) =
      { s with
        store := if unreadable then { s.store with table := Vector.replicate 64 .incomplete, latch := true } else s.store
        notices := if unreadable then s.notices.raise .storeFault else s.notices } := by
  cases unreadable <;> rfl

/-- Settles O7: the store's part first, then the engine's on the state it leaves, then READY. -/
theorem selfCheckEnds : Obligations.SelfCheckEnds := by
  unfold Obligations.SelfCheckEnds
  intro ramFault unreadable s hcheck
  simp only [exec, execSelfCheckEnd]
  rw [if_pos hcheck, State.ite_storeUnreadable_eq, State.startEngine_with_store_notices, ← State.startEngine_eq,
    State.queueFrame, readyFrame, SceneStore.countBytes]
  have hlink := s.startEngine_link ramFault
  have hstart : (s.startEngine ramFault).start = s.start := by rw [State.startEngine_frame]
  dsimp only
  rw [hlink, hstart]
  rfl

end Sys2Proof.Machine
end

section
/-! Proofs: the queue of commands (0.2), and the frame of every command (0.3, 95). -/

namespace Sys2Proof.Machine

theorem step_of_pending_cons {c : Instr} {rest : List Instr} {s : State} (h : s.pending = c :: rest) :
    step s = exec c { s with pending := rest } := by
  unfold step
  rw [h]

theorem step_of_pending_nil {s : State} (h : s.pending = []) : step s = .next s := by
  unfold step
  rw [h]

/-- Settles O1: `step` splits on the queue, and each hypothesis names its branch. -/
theorem stepRunsTheFrontCommand : Obligations.StepRunsTheFrontCommand := by
  unfold Obligations.StepRunsTheFrontCommand
  exact ⟨fun _ _ _ h => step_of_pending_cons h, fun _ h => step_of_pending_nil h⟩

/-- No command stops the part: whatever guard a meaning has stands inside the next state it answers. -/
theorem exec_answers_next (c : Instr) (s : State) : ∃ t, exec c s = .next t := by
  cases c <;> exact ⟨_, rfl⟩

/-- Settles O2: the next state that `exec` answers, and the frame of `exec_changesOnly` for it. -/
theorem commandsChangeOnlyTheirBlocks : Obligations.CommandsChangeOnlyTheirBlocks := by
  unfold Obligations.CommandsChangeOnlyTheirBlocks
  intro c s
  obtain ⟨t, ht⟩ := exec_answers_next c s
  obtain ⟨hpending, hagrees⟩ := exec_changesOnly ht
  exact ⟨t, ht, hpending, hagrees⟩

end Sys2Proof.Machine
end
